-- ==== Sys2Proof/Word.lean ====
section
/-!
DEFINITION. Word.lean: the two word types of the core (00_scope.md R10) and the joining and splitting of
a 16-bit value into its bytes (10_state.md R22, `{high, low}` of 00_scope.md R13).
-/

namespace Sys2Proof

/-- A bus datum, a register half, an opcode byte (00_scope.md R10). -/
abbrev Byte := BitVec 8

/-- A bus address, a register pair, SP or PC (00_scope.md R10). -/
abbrev Word := BitVec 16

/-- `{hi, lo}` of 00_scope.md R13. -/
def Word.ofBytes (hi lo : Byte) : Word := hi ++ lo

/-- `v[15:8]`. -/
def Word.hi (v : Word) : Byte := v.extractLsb' 8 8

/-- `v[7:0]`. -/
def Word.lo (v : Word) : Byte := v.extractLsb' 0 8

end Sys2Proof
end

