-- ==== Sys2Proof/Syntax.lean ====
section
/-!
DEFINITION. Syntax.lean: the instructions of the garboy core, one constructor for each row of
spec/opcode_table.json (30_encoding.md R174): first the rows with an immediate operand, then the others,
each in the table's order (Lean's compiler wants constructors with fields among the first 244). An operand has the type of its
encoding field: d8, e8 and a8 are the one byte of the instruction stream, d16 and a16 the word its two
bytes make (30_encoding.md R161, R163). STOP keeps the second byte it discards, so that every encoding
has its own term. PREFIX CB has no row: it is the first byte of the prefixed instructions (R174, R385).
-/

namespace Sys2Proof

/-- One instruction of the unprefixed table (30_encoding.md R169) or of the CB-prefixed table (R171).
The name spells the row's mnemonic: `At` stands for the parentheses of a memory operand, `Inc` and `Dec`
for `(HL+)` and `(HL-)`. -/
inductive Instr where
  /-- `LD BC,d16` (R230) -/
  | ldBcD16 (d16 : Word)
  /-- `LD B,d8` (R201) -/
  | ldBD8 (d8 : Byte)
  /-- `LD (a16),SP` (R231) -/
  | ldAtA16Sp (a16 : Word)
  /-- `LD C,d8` (R201) -/
  | ldCD8 (d8 : Byte)
  /-- `STOP` (R381) -/
  | stop (d8 : Byte)
  /-- `LD DE,d16` (R230) -/
  | ldDeD16 (d16 : Word)
  /-- `LD D,d8` (R201) -/
  | ldDD8 (d8 : Byte)
  /-- `JR e8` (R354) -/
  | jrE8 (e8 : Byte)
  /-- `LD E,d8` (R201) -/
  | ldED8 (d8 : Byte)
  /-- `JR NZ,e8` (R355) -/
  | jrNzE8 (e8 : Byte)
  /-- `LD HL,d16` (R230) -/
  | ldHlD16 (d16 : Word)
  /-- `LD H,d8` (R201) -/
  | ldHD8 (d8 : Byte)
  /-- `JR Z,e8` (R355) -/
  | jrZE8 (e8 : Byte)
  /-- `LD L,d8` (R201) -/
  | ldLD8 (d8 : Byte)
  /-- `JR NC,e8` (R355) -/
  | jrNcE8 (e8 : Byte)
  /-- `LD SP,d16` (R230) -/
  | ldSpD16 (d16 : Word)
  /-- `LD (HL),d8` (R204) -/
  | ldAtHlD8 (d8 : Byte)
  /-- `JR C,e8` (R355) -/
  | jrCE8 (e8 : Byte)
  /-- `LD A,d8` (R201) -/
  | ldAD8 (d8 : Byte)
  /-- `JP NZ,a16` (R352) -/
  | jpNzA16 (a16 : Word)
  /-- `JP a16` (R351) -/
  | jpA16 (a16 : Word)
  /-- `CALL NZ,a16` (R357) -/
  | callNzA16 (a16 : Word)
  /-- `ADD A,d8` (R255) -/
  | addAD8 (d8 : Byte)
  /-- `JP Z,a16` (R352) -/
  | jpZA16 (a16 : Word)
  /-- `CALL Z,a16` (R357) -/
  | callZA16 (a16 : Word)
  /-- `CALL a16` (R356) -/
  | callA16 (a16 : Word)
  /-- `ADC A,d8` (R258) -/
  | adcAD8 (d8 : Byte)
  /-- `JP NC,a16` (R352) -/
  | jpNcA16 (a16 : Word)
  /-- `CALL NC,a16` (R357) -/
  | callNcA16 (a16 : Word)
  /-- `SUB d8` (R261) -/
  | subD8 (d8 : Byte)
  /-- `JP C,a16` (R352) -/
  | jpCA16 (a16 : Word)
  /-- `CALL C,a16` (R357) -/
  | callCA16 (a16 : Word)
  /-- `SBC A,d8` (R264) -/
  | sbcAD8 (d8 : Byte)
  /-- `LDH (a8),A` (R214) -/
  | ldhAtA8A (a8 : Byte)
  /-- `AND d8` (R267) -/
  | andD8 (d8 : Byte)
  /-- `ADD SP,e8` (R303) -/
  | addSpE8 (e8 : Byte)
  /-- `LD (a16),A` (R210) -/
  | ldAtA16A (a16 : Word)
  /-- `XOR d8` (R270) -/
  | xorD8 (d8 : Byte)
  /-- `LDH A,(a8)` (R213) -/
  | ldhAAtA8 (a8 : Byte)
  /-- `OR d8` (R273) -/
  | orD8 (d8 : Byte)
  /-- `LD HL,SP+e8` (R233) -/
  | ldHlSpE8 (e8 : Byte)
  /-- `LD A,(a16)` (R209) -/
  | ldAAtA16 (a16 : Word)
  /-- `CP d8` (R276) -/
  | cpD8 (d8 : Byte)
  /-- `NOP` (R380) -/
  | nop
  /-- `LD (BC),A` (R207) -/
  | ldAtBcA
  /-- `INC BC` (R301) -/
  | incBc
  /-- `INC B` (R277) -/
  | incB
  /-- `DEC B` (R279) -/
  | decB
  /-- `RLCA` (R310) -/
  | rlca
  /-- `ADD HL,BC` (R300) -/
  | addHlBc
  /-- `LD A,(BC)` (R205) -/
  | ldAAtBc
  /-- `DEC BC` (R302) -/
  | decBc
  /-- `INC C` (R277) -/
  | incC
  /-- `DEC C` (R279) -/
  | decC
  /-- `RRCA` (R311) -/
  | rrca
  /-- `LD (DE),A` (R208) -/
  | ldAtDeA
  /-- `INC DE` (R301) -/
  | incDe
  /-- `INC D` (R277) -/
  | incD
  /-- `DEC D` (R279) -/
  | decD
  /-- `RLA` (R312) -/
  | rla
  /-- `ADD HL,DE` (R300) -/
  | addHlDe
  /-- `LD A,(DE)` (R206) -/
  | ldAAtDe
  /-- `DEC DE` (R302) -/
  | decDe
  /-- `INC E` (R277) -/
  | incE
  /-- `DEC E` (R279) -/
  | decE
  /-- `RRA` (R313) -/
  | rra
  /-- `LD (HL+),A` (R218) -/
  | ldAtHlIncA
  /-- `INC HL` (R301) -/
  | incHl
  /-- `INC H` (R277) -/
  | incH
  /-- `DEC H` (R279) -/
  | decH
  /-- `DAA` (R281) -/
  | daa
  /-- `ADD HL,HL` (R300) -/
  | addHlHl
  /-- `LD A,(HL+)` (R217) -/
  | ldAAtHlInc
  /-- `DEC HL` (R302) -/
  | decHl
  /-- `INC L` (R277) -/
  | incL
  /-- `DEC L` (R279) -/
  | decL
  /-- `CPL` (R282) -/
  | cpl
  /-- `LD (HL-),A` (R216) -/
  | ldAtHlDecA
  /-- `INC SP` (R301) -/
  | incSp
  /-- `INC (HL)` (R278) -/
  | incAtHl
  /-- `DEC (HL)` (R280) -/
  | decAtHl
  /-- `SCF` (R283) -/
  | scf
  /-- `ADD HL,SP` (R300) -/
  | addHlSp
  /-- `LD A,(HL-)` (R215) -/
  | ldAAtHlDec
  /-- `DEC SP` (R302) -/
  | decSp
  /-- `INC A` (R277) -/
  | incA
  /-- `DEC A` (R279) -/
  | decA
  /-- `CCF` (R284) -/
  | ccf
  /-- `LD B,B` (R200) -/
  | ldBB
  /-- `LD B,C` (R200) -/
  | ldBC
  /-- `LD B,D` (R200) -/
  | ldBD
  /-- `LD B,E` (R200) -/
  | ldBE
  /-- `LD B,H` (R200) -/
  | ldBH
  /-- `LD B,L` (R200) -/
  | ldBL
  /-- `LD B,(HL)` (R202) -/
  | ldBAtHl
  /-- `LD B,A` (R200) -/
  | ldBA
  /-- `LD C,B` (R200) -/
  | ldCB
  /-- `LD C,C` (R200) -/
  | ldCC
  /-- `LD C,D` (R200) -/
  | ldCD
  /-- `LD C,E` (R200) -/
  | ldCE
  /-- `LD C,H` (R200) -/
  | ldCH
  /-- `LD C,L` (R200) -/
  | ldCL
  /-- `LD C,(HL)` (R202) -/
  | ldCAtHl
  /-- `LD C,A` (R200) -/
  | ldCA
  /-- `LD D,B` (R200) -/
  | ldDB
  /-- `LD D,C` (R200) -/
  | ldDC
  /-- `LD D,D` (R200) -/
  | ldDD
  /-- `LD D,E` (R200) -/
  | ldDE
  /-- `LD D,H` (R200) -/
  | ldDH
  /-- `LD D,L` (R200) -/
  | ldDL
  /-- `LD D,(HL)` (R202) -/
  | ldDAtHl
  /-- `LD D,A` (R200) -/
  | ldDA
  /-- `LD E,B` (R200) -/
  | ldEB
  /-- `LD E,C` (R200) -/
  | ldEC
  /-- `LD E,D` (R200) -/
  | ldED
  /-- `LD E,E` (R200) -/
  | ldEE
  /-- `LD E,H` (R200) -/
  | ldEH
  /-- `LD E,L` (R200) -/
  | ldEL
  /-- `LD E,(HL)` (R202) -/
  | ldEAtHl
  /-- `LD E,A` (R200) -/
  | ldEA
  /-- `LD H,B` (R200) -/
  | ldHB
  /-- `LD H,C` (R200) -/
  | ldHC
  /-- `LD H,D` (R200) -/
  | ldHD
  /-- `LD H,E` (R200) -/
  | ldHE
  /-- `LD H,H` (R200) -/
  | ldHH
  /-- `LD H,L` (R200) -/
  | ldHL
  /-- `LD H,(HL)` (R202) -/
  | ldHAtHl
  /-- `LD H,A` (R200) -/
  | ldHA
  /-- `LD L,B` (R200) -/
  | ldLB
  /-- `LD L,C` (R200) -/
  | ldLC
  /-- `LD L,D` (R200) -/
  | ldLD
  /-- `LD L,E` (R200) -/
  | ldLE
  /-- `LD L,H` (R200) -/
  | ldLH
  /-- `LD L,L` (R200) -/
  | ldLL
  /-- `LD L,(HL)` (R202) -/
  | ldLAtHl
  /-- `LD L,A` (R200) -/
  | ldLA
  /-- `LD (HL),B` (R203) -/
  | ldAtHlB
  /-- `LD (HL),C` (R203) -/
  | ldAtHlC
  /-- `LD (HL),D` (R203) -/
  | ldAtHlD
  /-- `LD (HL),E` (R203) -/
  | ldAtHlE
  /-- `LD (HL),H` (R203) -/
  | ldAtHlH
  /-- `LD (HL),L` (R203) -/
  | ldAtHlL
  /-- `HALT` (R382) -/
  | halt
  /-- `LD (HL),A` (R203) -/
  | ldAtHlA
  /-- `LD A,B` (R200) -/
  | ldAB
  /-- `LD A,C` (R200) -/
  | ldAC
  /-- `LD A,D` (R200) -/
  | ldAD
  /-- `LD A,E` (R200) -/
  | ldAE
  /-- `LD A,H` (R200) -/
  | ldAH
  /-- `LD A,L` (R200) -/
  | ldAL
  /-- `LD A,(HL)` (R202) -/
  | ldAAtHl
  /-- `LD A,A` (R200) -/
  | ldAA
  /-- `ADD A,B` (R253) -/
  | addAB
  /-- `ADD A,C` (R253) -/
  | addAC
  /-- `ADD A,D` (R253) -/
  | addAD
  /-- `ADD A,E` (R253) -/
  | addAE
  /-- `ADD A,H` (R253) -/
  | addAH
  /-- `ADD A,L` (R253) -/
  | addAL
  /-- `ADD A,(HL)` (R254) -/
  | addAAtHl
  /-- `ADD A,A` (R253) -/
  | addAA
  /-- `ADC A,B` (R256) -/
  | adcAB
  /-- `ADC A,C` (R256) -/
  | adcAC
  /-- `ADC A,D` (R256) -/
  | adcAD
  /-- `ADC A,E` (R256) -/
  | adcAE
  /-- `ADC A,H` (R256) -/
  | adcAH
  /-- `ADC A,L` (R256) -/
  | adcAL
  /-- `ADC A,(HL)` (R257) -/
  | adcAAtHl
  /-- `ADC A,A` (R256) -/
  | adcAA
  /-- `SUB B` (R259) -/
  | subB
  /-- `SUB C` (R259) -/
  | subC
  /-- `SUB D` (R259) -/
  | subD
  /-- `SUB E` (R259) -/
  | subE
  /-- `SUB H` (R259) -/
  | subH
  /-- `SUB L` (R259) -/
  | subL
  /-- `SUB (HL)` (R260) -/
  | subAtHl
  /-- `SUB A` (R259) -/
  | subA
  /-- `SBC A,B` (R262) -/
  | sbcAB
  /-- `SBC A,C` (R262) -/
  | sbcAC
  /-- `SBC A,D` (R262) -/
  | sbcAD
  /-- `SBC A,E` (R262) -/
  | sbcAE
  /-- `SBC A,H` (R262) -/
  | sbcAH
  /-- `SBC A,L` (R262) -/
  | sbcAL
  /-- `SBC A,(HL)` (R263) -/
  | sbcAAtHl
  /-- `SBC A,A` (R262) -/
  | sbcAA
  /-- `AND B` (R265) -/
  | andB
  /-- `AND C` (R265) -/
  | andC
  /-- `AND D` (R265) -/
  | andD
  /-- `AND E` (R265) -/
  | andE
  /-- `AND H` (R265) -/
  | andH
  /-- `AND L` (R265) -/
  | andL
  /-- `AND (HL)` (R266) -/
  | andAtHl
  /-- `AND A` (R265) -/
  | andA
  /-- `XOR B` (R268) -/
  | xorB
  /-- `XOR C` (R268) -/
  | xorC
  /-- `XOR D` (R268) -/
  | xorD
  /-- `XOR E` (R268) -/
  | xorE
  /-- `XOR H` (R268) -/
  | xorH
  /-- `XOR L` (R268) -/
  | xorL
  /-- `XOR (HL)` (R269) -/
  | xorAtHl
  /-- `XOR A` (R268) -/
  | xorA
  /-- `OR B` (R271) -/
  | orB
  /-- `OR C` (R271) -/
  | orC
  /-- `OR D` (R271) -/
  | orD
  /-- `OR E` (R271) -/
  | orE
  /-- `OR H` (R271) -/
  | orH
  /-- `OR L` (R271) -/
  | orL
  /-- `OR (HL)` (R272) -/
  | orAtHl
  /-- `OR A` (R271) -/
  | orA
  /-- `CP B` (R274) -/
  | cpB
  /-- `CP C` (R274) -/
  | cpC
  /-- `CP D` (R274) -/
  | cpD
  /-- `CP E` (R274) -/
  | cpE
  /-- `CP H` (R274) -/
  | cpH
  /-- `CP L` (R274) -/
  | cpL
  /-- `CP (HL)` (R275) -/
  | cpAtHl
  /-- `CP A` (R274) -/
  | cpA
  /-- `RET NZ` (R359) -/
  | retNz
  /-- `POP BC` (R235) -/
  | popBc
  /-- `PUSH BC` (R234) -/
  | pushBc
  /-- `RST 00H` (R361) -/
  | rst00
  /-- `RET Z` (R359) -/
  | retZ
  /-- `RET` (R358) -/
  | ret
  /-- `RST 08H` (R361) -/
  | rst08
  /-- `RET NC` (R359) -/
  | retNc
  /-- `POP DE` (R235) -/
  | popDe
  /-- `ILLEGAL_D3` (R386) -/
  | illegalD3
  /-- `PUSH DE` (R234) -/
  | pushDe
  /-- `RST 10H` (R361) -/
  | rst10
  /-- `RET C` (R359) -/
  | retC
  /-- `RETI` (R360) -/
  | reti
  /-- `ILLEGAL_DB` (R386) -/
  | illegalDB
  /-- `ILLEGAL_DD` (R386) -/
  | illegalDD
  /-- `RST 18H` (R361) -/
  | rst18
  /-- `POP HL` (R235) -/
  | popHl
  /-- `LDH (C),A` (R212) -/
  | ldhAtCA
  /-- `ILLEGAL_E3` (R386) -/
  | illegalE3
  /-- `ILLEGAL_E4` (R386) -/
  | illegalE4
  /-- `PUSH HL` (R234) -/
  | pushHl
  /-- `RST 20H` (R361) -/
  | rst20
  /-- `JP HL` (R353) -/
  | jpHl
  /-- `ILLEGAL_EB` (R386) -/
  | illegalEB
  /-- `ILLEGAL_EC` (R386) -/
  | illegalEC
  /-- `ILLEGAL_ED` (R386) -/
  | illegalED
  /-- `RST 28H` (R361) -/
  | rst28
  /-- `POP AF` (R236) -/
  | popAf
  /-- `LDH A,(C)` (R211) -/
  | ldhAAtC
  /-- `DI` (R383) -/
  | di
  /-- `ILLEGAL_F4` (R386) -/
  | illegalF4
  /-- `PUSH AF` (R234) -/
  | pushAf
  /-- `RST 30H` (R361) -/
  | rst30
  /-- `LD SP,HL` (R232) -/
  | ldSpHl
  /-- `EI` (R384) -/
  | ei
  /-- `ILLEGAL_FC` (R386) -/
  | illegalFC
  /-- `ILLEGAL_FD` (R386) -/
  | illegalFD
  /-- `RST 38H` (R361) -/
  | rst38
  /-- `RLC B` (R315) -/
  | rlcB
  /-- `RLC C` (R315) -/
  | rlcC
  /-- `RLC D` (R315) -/
  | rlcD
  /-- `RLC E` (R315) -/
  | rlcE
  /-- `RLC H` (R315) -/
  | rlcH
  /-- `RLC L` (R315) -/
  | rlcL
  /-- `RLC (HL)` (R316) -/
  | rlcAtHl
  /-- `RLC A` (R315) -/
  | rlcA
  /-- `RRC B` (R317) -/
  | rrcB
  /-- `RRC C` (R317) -/
  | rrcC
  /-- `RRC D` (R317) -/
  | rrcD
  /-- `RRC E` (R317) -/
  | rrcE
  /-- `RRC H` (R317) -/
  | rrcH
  /-- `RRC L` (R317) -/
  | rrcL
  /-- `RRC (HL)` (R318) -/
  | rrcAtHl
  /-- `RRC A` (R317) -/
  | rrcA
  /-- `RL B` (R319) -/
  | rlB
  /-- `RL C` (R319) -/
  | rlC
  /-- `RL D` (R319) -/
  | rlD
  /-- `RL E` (R319) -/
  | rlE
  /-- `RL H` (R319) -/
  | rlH
  /-- `RL L` (R319) -/
  | rlL
  /-- `RL (HL)` (R320) -/
  | rlAtHl
  /-- `RL A` (R319) -/
  | rlA
  /-- `RR B` (R321) -/
  | rrB
  /-- `RR C` (R321) -/
  | rrC
  /-- `RR D` (R321) -/
  | rrD
  /-- `RR E` (R321) -/
  | rrE
  /-- `RR H` (R321) -/
  | rrH
  /-- `RR L` (R321) -/
  | rrL
  /-- `RR (HL)` (R322) -/
  | rrAtHl
  /-- `RR A` (R321) -/
  | rrA
  /-- `SLA B` (R323) -/
  | slaB
  /-- `SLA C` (R323) -/
  | slaC
  /-- `SLA D` (R323) -/
  | slaD
  /-- `SLA E` (R323) -/
  | slaE
  /-- `SLA H` (R323) -/
  | slaH
  /-- `SLA L` (R323) -/
  | slaL
  /-- `SLA (HL)` (R324) -/
  | slaAtHl
  /-- `SLA A` (R323) -/
  | slaA
  /-- `SRA B` (R325) -/
  | sraB
  /-- `SRA C` (R325) -/
  | sraC
  /-- `SRA D` (R325) -/
  | sraD
  /-- `SRA E` (R325) -/
  | sraE
  /-- `SRA H` (R325) -/
  | sraH
  /-- `SRA L` (R325) -/
  | sraL
  /-- `SRA (HL)` (R326) -/
  | sraAtHl
  /-- `SRA A` (R325) -/
  | sraA
  /-- `SWAP B` (R327) -/
  | swapB
  /-- `SWAP C` (R327) -/
  | swapC
  /-- `SWAP D` (R327) -/
  | swapD
  /-- `SWAP E` (R327) -/
  | swapE
  /-- `SWAP H` (R327) -/
  | swapH
  /-- `SWAP L` (R327) -/
  | swapL
  /-- `SWAP (HL)` (R328) -/
  | swapAtHl
  /-- `SWAP A` (R327) -/
  | swapA
  /-- `SRL B` (R329) -/
  | srlB
  /-- `SRL C` (R329) -/
  | srlC
  /-- `SRL D` (R329) -/
  | srlD
  /-- `SRL E` (R329) -/
  | srlE
  /-- `SRL H` (R329) -/
  | srlH
  /-- `SRL L` (R329) -/
  | srlL
  /-- `SRL (HL)` (R330) -/
  | srlAtHl
  /-- `SRL A` (R329) -/
  | srlA
  /-- `BIT 0,B` (R331) -/
  | bit0B
  /-- `BIT 0,C` (R331) -/
  | bit0C
  /-- `BIT 0,D` (R331) -/
  | bit0D
  /-- `BIT 0,E` (R331) -/
  | bit0E
  /-- `BIT 0,H` (R331) -/
  | bit0H
  /-- `BIT 0,L` (R331) -/
  | bit0L
  /-- `BIT 0,(HL)` (R332) -/
  | bit0AtHl
  /-- `BIT 0,A` (R331) -/
  | bit0A
  /-- `BIT 1,B` (R331) -/
  | bit1B
  /-- `BIT 1,C` (R331) -/
  | bit1C
  /-- `BIT 1,D` (R331) -/
  | bit1D
  /-- `BIT 1,E` (R331) -/
  | bit1E
  /-- `BIT 1,H` (R331) -/
  | bit1H
  /-- `BIT 1,L` (R331) -/
  | bit1L
  /-- `BIT 1,(HL)` (R332) -/
  | bit1AtHl
  /-- `BIT 1,A` (R331) -/
  | bit1A
  /-- `BIT 2,B` (R331) -/
  | bit2B
  /-- `BIT 2,C` (R331) -/
  | bit2C
  /-- `BIT 2,D` (R331) -/
  | bit2D
  /-- `BIT 2,E` (R331) -/
  | bit2E
  /-- `BIT 2,H` (R331) -/
  | bit2H
  /-- `BIT 2,L` (R331) -/
  | bit2L
  /-- `BIT 2,(HL)` (R332) -/
  | bit2AtHl
  /-- `BIT 2,A` (R331) -/
  | bit2A
  /-- `BIT 3,B` (R331) -/
  | bit3B
  /-- `BIT 3,C` (R331) -/
  | bit3C
  /-- `BIT 3,D` (R331) -/
  | bit3D
  /-- `BIT 3,E` (R331) -/
  | bit3E
  /-- `BIT 3,H` (R331) -/
  | bit3H
  /-- `BIT 3,L` (R331) -/
  | bit3L
  /-- `BIT 3,(HL)` (R332) -/
  | bit3AtHl
  /-- `BIT 3,A` (R331) -/
  | bit3A
  /-- `BIT 4,B` (R331) -/
  | bit4B
  /-- `BIT 4,C` (R331) -/
  | bit4C
  /-- `BIT 4,D` (R331) -/
  | bit4D
  /-- `BIT 4,E` (R331) -/
  | bit4E
  /-- `BIT 4,H` (R331) -/
  | bit4H
  /-- `BIT 4,L` (R331) -/
  | bit4L
  /-- `BIT 4,(HL)` (R332) -/
  | bit4AtHl
  /-- `BIT 4,A` (R331) -/
  | bit4A
  /-- `BIT 5,B` (R331) -/
  | bit5B
  /-- `BIT 5,C` (R331) -/
  | bit5C
  /-- `BIT 5,D` (R331) -/
  | bit5D
  /-- `BIT 5,E` (R331) -/
  | bit5E
  /-- `BIT 5,H` (R331) -/
  | bit5H
  /-- `BIT 5,L` (R331) -/
  | bit5L
  /-- `BIT 5,(HL)` (R332) -/
  | bit5AtHl
  /-- `BIT 5,A` (R331) -/
  | bit5A
  /-- `BIT 6,B` (R331) -/
  | bit6B
  /-- `BIT 6,C` (R331) -/
  | bit6C
  /-- `BIT 6,D` (R331) -/
  | bit6D
  /-- `BIT 6,E` (R331) -/
  | bit6E
  /-- `BIT 6,H` (R331) -/
  | bit6H
  /-- `BIT 6,L` (R331) -/
  | bit6L
  /-- `BIT 6,(HL)` (R332) -/
  | bit6AtHl
  /-- `BIT 6,A` (R331) -/
  | bit6A
  /-- `BIT 7,B` (R331) -/
  | bit7B
  /-- `BIT 7,C` (R331) -/
  | bit7C
  /-- `BIT 7,D` (R331) -/
  | bit7D
  /-- `BIT 7,E` (R331) -/
  | bit7E
  /-- `BIT 7,H` (R331) -/
  | bit7H
  /-- `BIT 7,L` (R331) -/
  | bit7L
  /-- `BIT 7,(HL)` (R332) -/
  | bit7AtHl
  /-- `BIT 7,A` (R331) -/
  | bit7A
  /-- `RES 0,B` (R333) -/
  | res0B
  /-- `RES 0,C` (R333) -/
  | res0C
  /-- `RES 0,D` (R333) -/
  | res0D
  /-- `RES 0,E` (R333) -/
  | res0E
  /-- `RES 0,H` (R333) -/
  | res0H
  /-- `RES 0,L` (R333) -/
  | res0L
  /-- `RES 0,(HL)` (R334) -/
  | res0AtHl
  /-- `RES 0,A` (R333) -/
  | res0A
  /-- `RES 1,B` (R333) -/
  | res1B
  /-- `RES 1,C` (R333) -/
  | res1C
  /-- `RES 1,D` (R333) -/
  | res1D
  /-- `RES 1,E` (R333) -/
  | res1E
  /-- `RES 1,H` (R333) -/
  | res1H
  /-- `RES 1,L` (R333) -/
  | res1L
  /-- `RES 1,(HL)` (R334) -/
  | res1AtHl
  /-- `RES 1,A` (R333) -/
  | res1A
  /-- `RES 2,B` (R333) -/
  | res2B
  /-- `RES 2,C` (R333) -/
  | res2C
  /-- `RES 2,D` (R333) -/
  | res2D
  /-- `RES 2,E` (R333) -/
  | res2E
  /-- `RES 2,H` (R333) -/
  | res2H
  /-- `RES 2,L` (R333) -/
  | res2L
  /-- `RES 2,(HL)` (R334) -/
  | res2AtHl
  /-- `RES 2,A` (R333) -/
  | res2A
  /-- `RES 3,B` (R333) -/
  | res3B
  /-- `RES 3,C` (R333) -/
  | res3C
  /-- `RES 3,D` (R333) -/
  | res3D
  /-- `RES 3,E` (R333) -/
  | res3E
  /-- `RES 3,H` (R333) -/
  | res3H
  /-- `RES 3,L` (R333) -/
  | res3L
  /-- `RES 3,(HL)` (R334) -/
  | res3AtHl
  /-- `RES 3,A` (R333) -/
  | res3A
  /-- `RES 4,B` (R333) -/
  | res4B
  /-- `RES 4,C` (R333) -/
  | res4C
  /-- `RES 4,D` (R333) -/
  | res4D
  /-- `RES 4,E` (R333) -/
  | res4E
  /-- `RES 4,H` (R333) -/
  | res4H
  /-- `RES 4,L` (R333) -/
  | res4L
  /-- `RES 4,(HL)` (R334) -/
  | res4AtHl
  /-- `RES 4,A` (R333) -/
  | res4A
  /-- `RES 5,B` (R333) -/
  | res5B
  /-- `RES 5,C` (R333) -/
  | res5C
  /-- `RES 5,D` (R333) -/
  | res5D
  /-- `RES 5,E` (R333) -/
  | res5E
  /-- `RES 5,H` (R333) -/
  | res5H
  /-- `RES 5,L` (R333) -/
  | res5L
  /-- `RES 5,(HL)` (R334) -/
  | res5AtHl
  /-- `RES 5,A` (R333) -/
  | res5A
  /-- `RES 6,B` (R333) -/
  | res6B
  /-- `RES 6,C` (R333) -/
  | res6C
  /-- `RES 6,D` (R333) -/
  | res6D
  /-- `RES 6,E` (R333) -/
  | res6E
  /-- `RES 6,H` (R333) -/
  | res6H
  /-- `RES 6,L` (R333) -/
  | res6L
  /-- `RES 6,(HL)` (R334) -/
  | res6AtHl
  /-- `RES 6,A` (R333) -/
  | res6A
  /-- `RES 7,B` (R333) -/
  | res7B
  /-- `RES 7,C` (R333) -/
  | res7C
  /-- `RES 7,D` (R333) -/
  | res7D
  /-- `RES 7,E` (R333) -/
  | res7E
  /-- `RES 7,H` (R333) -/
  | res7H
  /-- `RES 7,L` (R333) -/
  | res7L
  /-- `RES 7,(HL)` (R334) -/
  | res7AtHl
  /-- `RES 7,A` (R333) -/
  | res7A
  /-- `SET 0,B` (R335) -/
  | set0B
  /-- `SET 0,C` (R335) -/
  | set0C
  /-- `SET 0,D` (R335) -/
  | set0D
  /-- `SET 0,E` (R335) -/
  | set0E
  /-- `SET 0,H` (R335) -/
  | set0H
  /-- `SET 0,L` (R335) -/
  | set0L
  /-- `SET 0,(HL)` (R336) -/
  | set0AtHl
  /-- `SET 0,A` (R335) -/
  | set0A
  /-- `SET 1,B` (R335) -/
  | set1B
  /-- `SET 1,C` (R335) -/
  | set1C
  /-- `SET 1,D` (R335) -/
  | set1D
  /-- `SET 1,E` (R335) -/
  | set1E
  /-- `SET 1,H` (R335) -/
  | set1H
  /-- `SET 1,L` (R335) -/
  | set1L
  /-- `SET 1,(HL)` (R336) -/
  | set1AtHl
  /-- `SET 1,A` (R335) -/
  | set1A
  /-- `SET 2,B` (R335) -/
  | set2B
  /-- `SET 2,C` (R335) -/
  | set2C
  /-- `SET 2,D` (R335) -/
  | set2D
  /-- `SET 2,E` (R335) -/
  | set2E
  /-- `SET 2,H` (R335) -/
  | set2H
  /-- `SET 2,L` (R335) -/
  | set2L
  /-- `SET 2,(HL)` (R336) -/
  | set2AtHl
  /-- `SET 2,A` (R335) -/
  | set2A
  /-- `SET 3,B` (R335) -/
  | set3B
  /-- `SET 3,C` (R335) -/
  | set3C
  /-- `SET 3,D` (R335) -/
  | set3D
  /-- `SET 3,E` (R335) -/
  | set3E
  /-- `SET 3,H` (R335) -/
  | set3H
  /-- `SET 3,L` (R335) -/
  | set3L
  /-- `SET 3,(HL)` (R336) -/
  | set3AtHl
  /-- `SET 3,A` (R335) -/
  | set3A
  /-- `SET 4,B` (R335) -/
  | set4B
  /-- `SET 4,C` (R335) -/
  | set4C
  /-- `SET 4,D` (R335) -/
  | set4D
  /-- `SET 4,E` (R335) -/
  | set4E
  /-- `SET 4,H` (R335) -/
  | set4H
  /-- `SET 4,L` (R335) -/
  | set4L
  /-- `SET 4,(HL)` (R336) -/
  | set4AtHl
  /-- `SET 4,A` (R335) -/
  | set4A
  /-- `SET 5,B` (R335) -/
  | set5B
  /-- `SET 5,C` (R335) -/
  | set5C
  /-- `SET 5,D` (R335) -/
  | set5D
  /-- `SET 5,E` (R335) -/
  | set5E
  /-- `SET 5,H` (R335) -/
  | set5H
  /-- `SET 5,L` (R335) -/
  | set5L
  /-- `SET 5,(HL)` (R336) -/
  | set5AtHl
  /-- `SET 5,A` (R335) -/
  | set5A
  /-- `SET 6,B` (R335) -/
  | set6B
  /-- `SET 6,C` (R335) -/
  | set6C
  /-- `SET 6,D` (R335) -/
  | set6D
  /-- `SET 6,E` (R335) -/
  | set6E
  /-- `SET 6,H` (R335) -/
  | set6H
  /-- `SET 6,L` (R335) -/
  | set6L
  /-- `SET 6,(HL)` (R336) -/
  | set6AtHl
  /-- `SET 6,A` (R335) -/
  | set6A
  /-- `SET 7,B` (R335) -/
  | set7B
  /-- `SET 7,C` (R335) -/
  | set7C
  /-- `SET 7,D` (R335) -/
  | set7D
  /-- `SET 7,E` (R335) -/
  | set7E
  /-- `SET 7,H` (R335) -/
  | set7H
  /-- `SET 7,L` (R335) -/
  | set7L
  /-- `SET 7,(HL)` (R336) -/
  | set7AtHl
  /-- `SET 7,A` (R335) -/
  | set7A
deriving DecidableEq, Repr

end Sys2Proof
end

