-- ==== Sys2Proof/WellFormed.lean ====
section
/-!
DEFINITION. WellFormed.lean: which terms of `Instr` a program may contain. Every operand has exactly the
type of its encoding field, so no operand can be out of range (30_encoding.md R163). What is left to
check is that the term is a defined instruction: the eleven invalid opcodes have a row of their own, and
a program that decodes one ends the machine (30_encoding.md R172, 93_implementation_defined.md U1).
-/

namespace Sys2Proof

/-- The opcode byte of an invalid opcode, and nothing for a defined instruction (30_encoding.md R172). -/
def Instr.invalidOpcode? : Instr → Option Byte
  | .illegalD3 => some 0xD3
  | .illegalDB => some 0xDB
  | .illegalDD => some 0xDD
  | .illegalE3 => some 0xE3
  | .illegalE4 => some 0xE4
  | .illegalEB => some 0xEB
  | .illegalEC => some 0xEC
  | .illegalED => some 0xED
  | .illegalF4 => some 0xF4
  | .illegalFC => some 0xFC
  | .illegalFD => some 0xFD
  | _ => none

/-- A defined instruction: none of the eleven invalid opcodes. -/
def Instr.wellFormed (i : Instr) : Bool := i.invalidOpcode?.isNone

end Sys2Proof
end

