-- ==== Sys2Proof/Decode.lean ====
section
/-!
DEFINITION. Decode.lean: the decoder and the encoder of the garboy core (30_encoding.md R160 to R174).
The two tables are the opcode maps of R169 and R171 row by row (row = high nibble, column = low nibble);
a decoder is a table lookup, "table index == opcode byte" (R174). The decoder is total on any bytes: it
refuses, by name, only a list too short to hold the instruction its first byte announces.
-/

namespace Sys2Proof

/-- What the unprefixed table holds for one opcode byte: a one-byte instruction, an instruction with one
or two immediate bytes, or the 0xCB prefix (30_encoding.md R160, R161, R166). -/
inductive Entry where
  | op    (i : Instr)
  | imm8  (f : Byte → Instr)
  | imm16 (f : Word → Instr)
  | cb

/-- Why a list of bytes is no instruction. -/
inductive DecodeError where
  /-- there is no byte at all -/
  | noBytes
  /-- fewer bytes than the opcode `op` needs (30_encoding.md R160) -/
  | truncated (op : Byte)
deriving DecidableEq, Repr

/-- Row 0x of 30_encoding.md R169. -/
def opRow0 : List Entry :=
  [
   .op .nop, .imm16 .ldBcD16, .op .ldAtBcA, .op .incBc, .op .incB, .op .decB, .imm8 .ldBD8, .op .rlca,
   .imm16 .ldAtA16Sp, .op .addHlBc, .op .ldAAtBc, .op .decBc, .op .incC, .op .decC, .imm8 .ldCD8, .op .rrca]

/-- Row 1x of 30_encoding.md R169. -/
def opRow1 : List Entry :=
  [
   .imm8 .stop, .imm16 .ldDeD16, .op .ldAtDeA, .op .incDe, .op .incD, .op .decD, .imm8 .ldDD8, .op .rla,
   .imm8 .jrE8, .op .addHlDe, .op .ldAAtDe, .op .decDe, .op .incE, .op .decE, .imm8 .ldED8, .op .rra]

/-- Row 2x of 30_encoding.md R169. -/
def opRow2 : List Entry :=
  [
   .imm8 .jrNzE8, .imm16 .ldHlD16, .op .ldAtHlIncA, .op .incHl, .op .incH, .op .decH, .imm8 .ldHD8,
   .op .daa, .imm8 .jrZE8, .op .addHlHl, .op .ldAAtHlInc, .op .decHl, .op .incL, .op .decL, .imm8 .ldLD8,
   .op .cpl]

/-- Row 3x of 30_encoding.md R169. -/
def opRow3 : List Entry :=
  [
   .imm8 .jrNcE8, .imm16 .ldSpD16, .op .ldAtHlDecA, .op .incSp, .op .incAtHl, .op .decAtHl,
   .imm8 .ldAtHlD8, .op .scf, .imm8 .jrCE8, .op .addHlSp, .op .ldAAtHlDec, .op .decSp, .op .incA,
   .op .decA, .imm8 .ldAD8, .op .ccf]

/-- Row 4x of 30_encoding.md R169. -/
def opRow4 : List Entry :=
  [
   .op .ldBB, .op .ldBC, .op .ldBD, .op .ldBE, .op .ldBH, .op .ldBL, .op .ldBAtHl, .op .ldBA, .op .ldCB,
   .op .ldCC, .op .ldCD, .op .ldCE, .op .ldCH, .op .ldCL, .op .ldCAtHl, .op .ldCA]

/-- Row 5x of 30_encoding.md R169. -/
def opRow5 : List Entry :=
  [
   .op .ldDB, .op .ldDC, .op .ldDD, .op .ldDE, .op .ldDH, .op .ldDL, .op .ldDAtHl, .op .ldDA, .op .ldEB,
   .op .ldEC, .op .ldED, .op .ldEE, .op .ldEH, .op .ldEL, .op .ldEAtHl, .op .ldEA]

/-- Row 6x of 30_encoding.md R169. -/
def opRow6 : List Entry :=
  [
   .op .ldHB, .op .ldHC, .op .ldHD, .op .ldHE, .op .ldHH, .op .ldHL, .op .ldHAtHl, .op .ldHA, .op .ldLB,
   .op .ldLC, .op .ldLD, .op .ldLE, .op .ldLH, .op .ldLL, .op .ldLAtHl, .op .ldLA]

/-- Row 7x of 30_encoding.md R169. -/
def opRow7 : List Entry :=
  [
   .op .ldAtHlB, .op .ldAtHlC, .op .ldAtHlD, .op .ldAtHlE, .op .ldAtHlH, .op .ldAtHlL, .op .halt,
   .op .ldAtHlA, .op .ldAB, .op .ldAC, .op .ldAD, .op .ldAE, .op .ldAH, .op .ldAL, .op .ldAAtHl, .op .ldAA]

/-- Row 8x of 30_encoding.md R169. -/
def opRow8 : List Entry :=
  [
   .op .addAB, .op .addAC, .op .addAD, .op .addAE, .op .addAH, .op .addAL, .op .addAAtHl, .op .addAA,
   .op .adcAB, .op .adcAC, .op .adcAD, .op .adcAE, .op .adcAH, .op .adcAL, .op .adcAAtHl, .op .adcAA]

/-- Row 9x of 30_encoding.md R169. -/
def opRow9 : List Entry :=
  [
   .op .subB, .op .subC, .op .subD, .op .subE, .op .subH, .op .subL, .op .subAtHl, .op .subA, .op .sbcAB,
   .op .sbcAC, .op .sbcAD, .op .sbcAE, .op .sbcAH, .op .sbcAL, .op .sbcAAtHl, .op .sbcAA]

/-- Row Ax of 30_encoding.md R169. -/
def opRowA : List Entry :=
  [
   .op .andB, .op .andC, .op .andD, .op .andE, .op .andH, .op .andL, .op .andAtHl, .op .andA, .op .xorB,
   .op .xorC, .op .xorD, .op .xorE, .op .xorH, .op .xorL, .op .xorAtHl, .op .xorA]

/-- Row Bx of 30_encoding.md R169. -/
def opRowB : List Entry :=
  [
   .op .orB, .op .orC, .op .orD, .op .orE, .op .orH, .op .orL, .op .orAtHl, .op .orA, .op .cpB, .op .cpC,
   .op .cpD, .op .cpE, .op .cpH, .op .cpL, .op .cpAtHl, .op .cpA]

/-- Row Cx of 30_encoding.md R169. -/
def opRowC : List Entry :=
  [
   .op .retNz, .op .popBc, .imm16 .jpNzA16, .imm16 .jpA16, .imm16 .callNzA16, .op .pushBc, .imm8 .addAD8,
   .op .rst00, .op .retZ, .op .ret, .imm16 .jpZA16, .cb, .imm16 .callZA16, .imm16 .callA16, .imm8 .adcAD8,
   .op .rst08]

/-- Row Dx of 30_encoding.md R169. -/
def opRowD : List Entry :=
  [
   .op .retNc, .op .popDe, .imm16 .jpNcA16, .op .illegalD3, .imm16 .callNcA16, .op .pushDe, .imm8 .subD8,
   .op .rst10, .op .retC, .op .reti, .imm16 .jpCA16, .op .illegalDB, .imm16 .callCA16, .op .illegalDD,
   .imm8 .sbcAD8, .op .rst18]

/-- Row Ex of 30_encoding.md R169. -/
def opRowE : List Entry :=
  [
   .imm8 .ldhAtA8A, .op .popHl, .op .ldhAtCA, .op .illegalE3, .op .illegalE4, .op .pushHl, .imm8 .andD8,
   .op .rst20, .imm8 .addSpE8, .op .jpHl, .imm16 .ldAtA16A, .op .illegalEB, .op .illegalEC, .op .illegalED,
   .imm8 .xorD8, .op .rst28]

/-- Row Fx of 30_encoding.md R169. -/
def opRowF : List Entry :=
  [
   .imm8 .ldhAAtA8, .op .popAf, .op .ldhAAtC, .op .di, .op .illegalF4, .op .pushAf, .imm8 .orD8,
   .op .rst30, .imm8 .ldHlSpE8, .op .ldSpHl, .imm16 .ldAAtA16, .op .ei, .op .illegalFC, .op .illegalFD,
   .imm8 .cpD8, .op .rst38]

/-- The unprefixed table, 30_encoding.md R169. -/
def opRows : List (List Entry) :=
  [opRow0, opRow1, opRow2, opRow3, opRow4, opRow5, opRow6, opRow7] ++
  [opRow8, opRow9, opRowA, opRowB, opRowC, opRowD, opRowE, opRowF]

/-- The entry of an opcode byte. Each of the sixteen rows has sixteen entries, so no default is reached. -/
def opEntry (op : Byte) : Entry :=
  (opRows.getD (op.toNat / 16) []).getD (op.toNat % 16) .cb

/-- Second bytes 00 to 0F of 30_encoding.md R171. -/
def cbRow0 : List Instr :=
  [
   .rlcB, .rlcC, .rlcD, .rlcE, .rlcH, .rlcL, .rlcAtHl, .rlcA, .rrcB, .rrcC, .rrcD, .rrcE, .rrcH, .rrcL,
   .rrcAtHl, .rrcA]

/-- Second bytes 10 to 1F of 30_encoding.md R171. -/
def cbRow1 : List Instr :=
  [
   .rlB, .rlC, .rlD, .rlE, .rlH, .rlL, .rlAtHl, .rlA, .rrB, .rrC, .rrD, .rrE, .rrH, .rrL, .rrAtHl, .rrA]

/-- Second bytes 20 to 2F of 30_encoding.md R171. -/
def cbRow2 : List Instr :=
  [
   .slaB, .slaC, .slaD, .slaE, .slaH, .slaL, .slaAtHl, .slaA, .sraB, .sraC, .sraD, .sraE, .sraH, .sraL,
   .sraAtHl, .sraA]

/-- Second bytes 30 to 3F of 30_encoding.md R171. -/
def cbRow3 : List Instr :=
  [
   .swapB, .swapC, .swapD, .swapE, .swapH, .swapL, .swapAtHl, .swapA, .srlB, .srlC, .srlD, .srlE, .srlH,
   .srlL, .srlAtHl, .srlA]

/-- Second bytes 40 to 4F of 30_encoding.md R171. -/
def cbRow4 : List Instr :=
  [
   .bit0B, .bit0C, .bit0D, .bit0E, .bit0H, .bit0L, .bit0AtHl, .bit0A, .bit1B, .bit1C, .bit1D, .bit1E,
   .bit1H, .bit1L, .bit1AtHl, .bit1A]

/-- Second bytes 50 to 5F of 30_encoding.md R171. -/
def cbRow5 : List Instr :=
  [
   .bit2B, .bit2C, .bit2D, .bit2E, .bit2H, .bit2L, .bit2AtHl, .bit2A, .bit3B, .bit3C, .bit3D, .bit3E,
   .bit3H, .bit3L, .bit3AtHl, .bit3A]

/-- Second bytes 60 to 6F of 30_encoding.md R171. -/
def cbRow6 : List Instr :=
  [
   .bit4B, .bit4C, .bit4D, .bit4E, .bit4H, .bit4L, .bit4AtHl, .bit4A, .bit5B, .bit5C, .bit5D, .bit5E,
   .bit5H, .bit5L, .bit5AtHl, .bit5A]

/-- Second bytes 70 to 7F of 30_encoding.md R171. -/
def cbRow7 : List Instr :=
  [
   .bit6B, .bit6C, .bit6D, .bit6E, .bit6H, .bit6L, .bit6AtHl, .bit6A, .bit7B, .bit7C, .bit7D, .bit7E,
   .bit7H, .bit7L, .bit7AtHl, .bit7A]

/-- Second bytes 80 to 8F of 30_encoding.md R171. -/
def cbRow8 : List Instr :=
  [
   .res0B, .res0C, .res0D, .res0E, .res0H, .res0L, .res0AtHl, .res0A, .res1B, .res1C, .res1D, .res1E,
   .res1H, .res1L, .res1AtHl, .res1A]

/-- Second bytes 90 to 9F of 30_encoding.md R171. -/
def cbRow9 : List Instr :=
  [
   .res2B, .res2C, .res2D, .res2E, .res2H, .res2L, .res2AtHl, .res2A, .res3B, .res3C, .res3D, .res3E,
   .res3H, .res3L, .res3AtHl, .res3A]

/-- Second bytes A0 to AF of 30_encoding.md R171. -/
def cbRowA : List Instr :=
  [
   .res4B, .res4C, .res4D, .res4E, .res4H, .res4L, .res4AtHl, .res4A, .res5B, .res5C, .res5D, .res5E,
   .res5H, .res5L, .res5AtHl, .res5A]

/-- Second bytes B0 to BF of 30_encoding.md R171. -/
def cbRowB : List Instr :=
  [
   .res6B, .res6C, .res6D, .res6E, .res6H, .res6L, .res6AtHl, .res6A, .res7B, .res7C, .res7D, .res7E,
   .res7H, .res7L, .res7AtHl, .res7A]

/-- Second bytes C0 to CF of 30_encoding.md R171. -/
def cbRowC : List Instr :=
  [
   .set0B, .set0C, .set0D, .set0E, .set0H, .set0L, .set0AtHl, .set0A, .set1B, .set1C, .set1D, .set1E,
   .set1H, .set1L, .set1AtHl, .set1A]

/-- Second bytes D0 to DF of 30_encoding.md R171. -/
def cbRowD : List Instr :=
  [
   .set2B, .set2C, .set2D, .set2E, .set2H, .set2L, .set2AtHl, .set2A, .set3B, .set3C, .set3D, .set3E,
   .set3H, .set3L, .set3AtHl, .set3A]

/-- Second bytes E0 to EF of 30_encoding.md R171. -/
def cbRowE : List Instr :=
  [
   .set4B, .set4C, .set4D, .set4E, .set4H, .set4L, .set4AtHl, .set4A, .set5B, .set5C, .set5D, .set5E,
   .set5H, .set5L, .set5AtHl, .set5A]

/-- Second bytes F0 to FF of 30_encoding.md R171. -/
def cbRowF : List Instr :=
  [
   .set6B, .set6C, .set6D, .set6E, .set6H, .set6L, .set6AtHl, .set6A, .set7B, .set7C, .set7D, .set7E,
   .set7H, .set7L, .set7AtHl, .set7A]

/-- The prefixed table, 30_encoding.md R171. -/
def cbRows : List (List Instr) :=
  [cbRow0, cbRow1, cbRow2, cbRow3, cbRow4, cbRow5, cbRow6, cbRow7] ++
  [cbRow8, cbRow9, cbRowA, cbRowB, cbRowC, cbRowD, cbRowE, cbRowF]

/-- The prefixed instruction a second byte selects; all 256 are defined (30_encoding.md R171). -/
def cbInstr (op2 : Byte) : Instr :=
  (cbRows.getD (op2.toNat / 16) []).getD (op2.toNat % 16) .nop

/-- How many bytes the instruction of an entry has (30_encoding.md R160). -/
def Entry.length : Entry → Nat
  | .op _ => 1
  | .imm8 _ => 2
  | .imm16 _ => 3
  | .cb => 2

/-- The instruction an entry makes of the bytes that follow the opcode byte; a 16-bit immediate has its
low byte first (30_encoding.md R163, 20_memory.md R63). Bytes the entry does not need are not looked at. -/
def Entry.instr (e : Entry) (b1 b2 : Byte) : Instr :=
  match e with
  | .op i => i
  | .imm8 f => f b1
  | .imm16 f => f (Word.ofBytes b2 b1)
  | .cb => cbInstr b1

/-- The decode procedure of 30_encoding.md R166 on a list of bytes: the instruction and the bytes after it. -/
def decode (bytes : List Byte) : Except DecodeError (Instr × List Byte) :=
  match bytes with
  | [] => .error .noBytes
  | op :: rest =>
    if rest.length + 1 < (opEntry op).length then .error (.truncated op)
    else .ok ((opEntry op).instr (rest.getD 0 0) (rest.getD 1 0), rest.drop ((opEntry op).length - 1))

/-! ### The encoder, written from the opcode bytes of 40_load8.md to 46_system.md -/

/-- One byte. -/
def enc1 (op : Byte) : List Byte := [op]

/-- An opcode byte and one immediate byte (`OP_d8`, `OP_e8`, `OP_a8` of 30_encoding.md R161). -/
def enc2 (op b : Byte) : List Byte := [op, b]

/-- An opcode byte and a 16-bit immediate, low byte first (`OP_d16`, `OP_a16`). -/
def enc3 (op : Byte) (w : Word) : List Byte := [op, w.lo, w.hi]

/-- The prefix and a second opcode byte (`CB_OP`). -/
def encCb (op2 : Byte) : List Byte := [0xCB, op2]

/-- The bytes of an instruction, the byte at the lowest address first. -/
def encode : Instr → List Byte
  | .nop => enc1 0x00
  | .ldBcD16 x => enc3 0x01 x
  | .ldAtBcA => enc1 0x02
  | .incBc => enc1 0x03
  | .incB => enc1 0x04
  | .decB => enc1 0x05
  | .ldBD8 x => enc2 0x06 x
  | .rlca => enc1 0x07
  | .ldAtA16Sp x => enc3 0x08 x
  | .addHlBc => enc1 0x09
  | .ldAAtBc => enc1 0x0A
  | .decBc => enc1 0x0B
  | .incC => enc1 0x0C
  | .decC => enc1 0x0D
  | .ldCD8 x => enc2 0x0E x
  | .rrca => enc1 0x0F
  | .stop x => enc2 0x10 x
  | .ldDeD16 x => enc3 0x11 x
  | .ldAtDeA => enc1 0x12
  | .incDe => enc1 0x13
  | .incD => enc1 0x14
  | .decD => enc1 0x15
  | .ldDD8 x => enc2 0x16 x
  | .rla => enc1 0x17
  | .jrE8 x => enc2 0x18 x
  | .addHlDe => enc1 0x19
  | .ldAAtDe => enc1 0x1A
  | .decDe => enc1 0x1B
  | .incE => enc1 0x1C
  | .decE => enc1 0x1D
  | .ldED8 x => enc2 0x1E x
  | .rra => enc1 0x1F
  | .jrNzE8 x => enc2 0x20 x
  | .ldHlD16 x => enc3 0x21 x
  | .ldAtHlIncA => enc1 0x22
  | .incHl => enc1 0x23
  | .incH => enc1 0x24
  | .decH => enc1 0x25
  | .ldHD8 x => enc2 0x26 x
  | .daa => enc1 0x27
  | .jrZE8 x => enc2 0x28 x
  | .addHlHl => enc1 0x29
  | .ldAAtHlInc => enc1 0x2A
  | .decHl => enc1 0x2B
  | .incL => enc1 0x2C
  | .decL => enc1 0x2D
  | .ldLD8 x => enc2 0x2E x
  | .cpl => enc1 0x2F
  | .jrNcE8 x => enc2 0x30 x
  | .ldSpD16 x => enc3 0x31 x
  | .ldAtHlDecA => enc1 0x32
  | .incSp => enc1 0x33
  | .incAtHl => enc1 0x34
  | .decAtHl => enc1 0x35
  | .ldAtHlD8 x => enc2 0x36 x
  | .scf => enc1 0x37
  | .jrCE8 x => enc2 0x38 x
  | .addHlSp => enc1 0x39
  | .ldAAtHlDec => enc1 0x3A
  | .decSp => enc1 0x3B
  | .incA => enc1 0x3C
  | .decA => enc1 0x3D
  | .ldAD8 x => enc2 0x3E x
  | .ccf => enc1 0x3F
  | .ldBB => enc1 0x40
  | .ldBC => enc1 0x41
  | .ldBD => enc1 0x42
  | .ldBE => enc1 0x43
  | .ldBH => enc1 0x44
  | .ldBL => enc1 0x45
  | .ldBAtHl => enc1 0x46
  | .ldBA => enc1 0x47
  | .ldCB => enc1 0x48
  | .ldCC => enc1 0x49
  | .ldCD => enc1 0x4A
  | .ldCE => enc1 0x4B
  | .ldCH => enc1 0x4C
  | .ldCL => enc1 0x4D
  | .ldCAtHl => enc1 0x4E
  | .ldCA => enc1 0x4F
  | .ldDB => enc1 0x50
  | .ldDC => enc1 0x51
  | .ldDD => enc1 0x52
  | .ldDE => enc1 0x53
  | .ldDH => enc1 0x54
  | .ldDL => enc1 0x55
  | .ldDAtHl => enc1 0x56
  | .ldDA => enc1 0x57
  | .ldEB => enc1 0x58
  | .ldEC => enc1 0x59
  | .ldED => enc1 0x5A
  | .ldEE => enc1 0x5B
  | .ldEH => enc1 0x5C
  | .ldEL => enc1 0x5D
  | .ldEAtHl => enc1 0x5E
  | .ldEA => enc1 0x5F
  | .ldHB => enc1 0x60
  | .ldHC => enc1 0x61
  | .ldHD => enc1 0x62
  | .ldHE => enc1 0x63
  | .ldHH => enc1 0x64
  | .ldHL => enc1 0x65
  | .ldHAtHl => enc1 0x66
  | .ldHA => enc1 0x67
  | .ldLB => enc1 0x68
  | .ldLC => enc1 0x69
  | .ldLD => enc1 0x6A
  | .ldLE => enc1 0x6B
  | .ldLH => enc1 0x6C
  | .ldLL => enc1 0x6D
  | .ldLAtHl => enc1 0x6E
  | .ldLA => enc1 0x6F
  | .ldAtHlB => enc1 0x70
  | .ldAtHlC => enc1 0x71
  | .ldAtHlD => enc1 0x72
  | .ldAtHlE => enc1 0x73
  | .ldAtHlH => enc1 0x74
  | .ldAtHlL => enc1 0x75
  | .halt => enc1 0x76
  | .ldAtHlA => enc1 0x77
  | .ldAB => enc1 0x78
  | .ldAC => enc1 0x79
  | .ldAD => enc1 0x7A
  | .ldAE => enc1 0x7B
  | .ldAH => enc1 0x7C
  | .ldAL => enc1 0x7D
  | .ldAAtHl => enc1 0x7E
  | .ldAA => enc1 0x7F
  | .addAB => enc1 0x80
  | .addAC => enc1 0x81
  | .addAD => enc1 0x82
  | .addAE => enc1 0x83
  | .addAH => enc1 0x84
  | .addAL => enc1 0x85
  | .addAAtHl => enc1 0x86
  | .addAA => enc1 0x87
  | .adcAB => enc1 0x88
  | .adcAC => enc1 0x89
  | .adcAD => enc1 0x8A
  | .adcAE => enc1 0x8B
  | .adcAH => enc1 0x8C
  | .adcAL => enc1 0x8D
  | .adcAAtHl => enc1 0x8E
  | .adcAA => enc1 0x8F
  | .subB => enc1 0x90
  | .subC => enc1 0x91
  | .subD => enc1 0x92
  | .subE => enc1 0x93
  | .subH => enc1 0x94
  | .subL => enc1 0x95
  | .subAtHl => enc1 0x96
  | .subA => enc1 0x97
  | .sbcAB => enc1 0x98
  | .sbcAC => enc1 0x99
  | .sbcAD => enc1 0x9A
  | .sbcAE => enc1 0x9B
  | .sbcAH => enc1 0x9C
  | .sbcAL => enc1 0x9D
  | .sbcAAtHl => enc1 0x9E
  | .sbcAA => enc1 0x9F
  | .andB => enc1 0xA0
  | .andC => enc1 0xA1
  | .andD => enc1 0xA2
  | .andE => enc1 0xA3
  | .andH => enc1 0xA4
  | .andL => enc1 0xA5
  | .andAtHl => enc1 0xA6
  | .andA => enc1 0xA7
  | .xorB => enc1 0xA8
  | .xorC => enc1 0xA9
  | .xorD => enc1 0xAA
  | .xorE => enc1 0xAB
  | .xorH => enc1 0xAC
  | .xorL => enc1 0xAD
  | .xorAtHl => enc1 0xAE
  | .xorA => enc1 0xAF
  | .orB => enc1 0xB0
  | .orC => enc1 0xB1
  | .orD => enc1 0xB2
  | .orE => enc1 0xB3
  | .orH => enc1 0xB4
  | .orL => enc1 0xB5
  | .orAtHl => enc1 0xB6
  | .orA => enc1 0xB7
  | .cpB => enc1 0xB8
  | .cpC => enc1 0xB9
  | .cpD => enc1 0xBA
  | .cpE => enc1 0xBB
  | .cpH => enc1 0xBC
  | .cpL => enc1 0xBD
  | .cpAtHl => enc1 0xBE
  | .cpA => enc1 0xBF
  | .retNz => enc1 0xC0
  | .popBc => enc1 0xC1
  | .jpNzA16 x => enc3 0xC2 x
  | .jpA16 x => enc3 0xC3 x
  | .callNzA16 x => enc3 0xC4 x
  | .pushBc => enc1 0xC5
  | .addAD8 x => enc2 0xC6 x
  | .rst00 => enc1 0xC7
  | .retZ => enc1 0xC8
  | .ret => enc1 0xC9
  | .jpZA16 x => enc3 0xCA x
  | .callZA16 x => enc3 0xCC x
  | .callA16 x => enc3 0xCD x
  | .adcAD8 x => enc2 0xCE x
  | .rst08 => enc1 0xCF
  | .retNc => enc1 0xD0
  | .popDe => enc1 0xD1
  | .jpNcA16 x => enc3 0xD2 x
  | .illegalD3 => enc1 0xD3
  | .callNcA16 x => enc3 0xD4 x
  | .pushDe => enc1 0xD5
  | .subD8 x => enc2 0xD6 x
  | .rst10 => enc1 0xD7
  | .retC => enc1 0xD8
  | .reti => enc1 0xD9
  | .jpCA16 x => enc3 0xDA x
  | .illegalDB => enc1 0xDB
  | .callCA16 x => enc3 0xDC x
  | .illegalDD => enc1 0xDD
  | .sbcAD8 x => enc2 0xDE x
  | .rst18 => enc1 0xDF
  | .ldhAtA8A x => enc2 0xE0 x
  | .popHl => enc1 0xE1
  | .ldhAtCA => enc1 0xE2
  | .illegalE3 => enc1 0xE3
  | .illegalE4 => enc1 0xE4
  | .pushHl => enc1 0xE5
  | .andD8 x => enc2 0xE6 x
  | .rst20 => enc1 0xE7
  | .addSpE8 x => enc2 0xE8 x
  | .jpHl => enc1 0xE9
  | .ldAtA16A x => enc3 0xEA x
  | .illegalEB => enc1 0xEB
  | .illegalEC => enc1 0xEC
  | .illegalED => enc1 0xED
  | .xorD8 x => enc2 0xEE x
  | .rst28 => enc1 0xEF
  | .ldhAAtA8 x => enc2 0xF0 x
  | .popAf => enc1 0xF1
  | .ldhAAtC => enc1 0xF2
  | .di => enc1 0xF3
  | .illegalF4 => enc1 0xF4
  | .pushAf => enc1 0xF5
  | .orD8 x => enc2 0xF6 x
  | .rst30 => enc1 0xF7
  | .ldHlSpE8 x => enc2 0xF8 x
  | .ldSpHl => enc1 0xF9
  | .ldAAtA16 x => enc3 0xFA x
  | .ei => enc1 0xFB
  | .illegalFC => enc1 0xFC
  | .illegalFD => enc1 0xFD
  | .cpD8 x => enc2 0xFE x
  | .rst38 => enc1 0xFF
  | .rlcB => encCb 0x00
  | .rlcC => encCb 0x01
  | .rlcD => encCb 0x02
  | .rlcE => encCb 0x03
  | .rlcH => encCb 0x04
  | .rlcL => encCb 0x05
  | .rlcAtHl => encCb 0x06
  | .rlcA => encCb 0x07
  | .rrcB => encCb 0x08
  | .rrcC => encCb 0x09
  | .rrcD => encCb 0x0A
  | .rrcE => encCb 0x0B
  | .rrcH => encCb 0x0C
  | .rrcL => encCb 0x0D
  | .rrcAtHl => encCb 0x0E
  | .rrcA => encCb 0x0F
  | .rlB => encCb 0x10
  | .rlC => encCb 0x11
  | .rlD => encCb 0x12
  | .rlE => encCb 0x13
  | .rlH => encCb 0x14
  | .rlL => encCb 0x15
  | .rlAtHl => encCb 0x16
  | .rlA => encCb 0x17
  | .rrB => encCb 0x18
  | .rrC => encCb 0x19
  | .rrD => encCb 0x1A
  | .rrE => encCb 0x1B
  | .rrH => encCb 0x1C
  | .rrL => encCb 0x1D
  | .rrAtHl => encCb 0x1E
  | .rrA => encCb 0x1F
  | .slaB => encCb 0x20
  | .slaC => encCb 0x21
  | .slaD => encCb 0x22
  | .slaE => encCb 0x23
  | .slaH => encCb 0x24
  | .slaL => encCb 0x25
  | .slaAtHl => encCb 0x26
  | .slaA => encCb 0x27
  | .sraB => encCb 0x28
  | .sraC => encCb 0x29
  | .sraD => encCb 0x2A
  | .sraE => encCb 0x2B
  | .sraH => encCb 0x2C
  | .sraL => encCb 0x2D
  | .sraAtHl => encCb 0x2E
  | .sraA => encCb 0x2F
  | .swapB => encCb 0x30
  | .swapC => encCb 0x31
  | .swapD => encCb 0x32
  | .swapE => encCb 0x33
  | .swapH => encCb 0x34
  | .swapL => encCb 0x35
  | .swapAtHl => encCb 0x36
  | .swapA => encCb 0x37
  | .srlB => encCb 0x38
  | .srlC => encCb 0x39
  | .srlD => encCb 0x3A
  | .srlE => encCb 0x3B
  | .srlH => encCb 0x3C
  | .srlL => encCb 0x3D
  | .srlAtHl => encCb 0x3E
  | .srlA => encCb 0x3F
  | .bit0B => encCb 0x40
  | .bit0C => encCb 0x41
  | .bit0D => encCb 0x42
  | .bit0E => encCb 0x43
  | .bit0H => encCb 0x44
  | .bit0L => encCb 0x45
  | .bit0AtHl => encCb 0x46
  | .bit0A => encCb 0x47
  | .bit1B => encCb 0x48
  | .bit1C => encCb 0x49
  | .bit1D => encCb 0x4A
  | .bit1E => encCb 0x4B
  | .bit1H => encCb 0x4C
  | .bit1L => encCb 0x4D
  | .bit1AtHl => encCb 0x4E
  | .bit1A => encCb 0x4F
  | .bit2B => encCb 0x50
  | .bit2C => encCb 0x51
  | .bit2D => encCb 0x52
  | .bit2E => encCb 0x53
  | .bit2H => encCb 0x54
  | .bit2L => encCb 0x55
  | .bit2AtHl => encCb 0x56
  | .bit2A => encCb 0x57
  | .bit3B => encCb 0x58
  | .bit3C => encCb 0x59
  | .bit3D => encCb 0x5A
  | .bit3E => encCb 0x5B
  | .bit3H => encCb 0x5C
  | .bit3L => encCb 0x5D
  | .bit3AtHl => encCb 0x5E
  | .bit3A => encCb 0x5F
  | .bit4B => encCb 0x60
  | .bit4C => encCb 0x61
  | .bit4D => encCb 0x62
  | .bit4E => encCb 0x63
  | .bit4H => encCb 0x64
  | .bit4L => encCb 0x65
  | .bit4AtHl => encCb 0x66
  | .bit4A => encCb 0x67
  | .bit5B => encCb 0x68
  | .bit5C => encCb 0x69
  | .bit5D => encCb 0x6A
  | .bit5E => encCb 0x6B
  | .bit5H => encCb 0x6C
  | .bit5L => encCb 0x6D
  | .bit5AtHl => encCb 0x6E
  | .bit5A => encCb 0x6F
  | .bit6B => encCb 0x70
  | .bit6C => encCb 0x71
  | .bit6D => encCb 0x72
  | .bit6E => encCb 0x73
  | .bit6H => encCb 0x74
  | .bit6L => encCb 0x75
  | .bit6AtHl => encCb 0x76
  | .bit6A => encCb 0x77
  | .bit7B => encCb 0x78
  | .bit7C => encCb 0x79
  | .bit7D => encCb 0x7A
  | .bit7E => encCb 0x7B
  | .bit7H => encCb 0x7C
  | .bit7L => encCb 0x7D
  | .bit7AtHl => encCb 0x7E
  | .bit7A => encCb 0x7F
  | .res0B => encCb 0x80
  | .res0C => encCb 0x81
  | .res0D => encCb 0x82
  | .res0E => encCb 0x83
  | .res0H => encCb 0x84
  | .res0L => encCb 0x85
  | .res0AtHl => encCb 0x86
  | .res0A => encCb 0x87
  | .res1B => encCb 0x88
  | .res1C => encCb 0x89
  | .res1D => encCb 0x8A
  | .res1E => encCb 0x8B
  | .res1H => encCb 0x8C
  | .res1L => encCb 0x8D
  | .res1AtHl => encCb 0x8E
  | .res1A => encCb 0x8F
  | .res2B => encCb 0x90
  | .res2C => encCb 0x91
  | .res2D => encCb 0x92
  | .res2E => encCb 0x93
  | .res2H => encCb 0x94
  | .res2L => encCb 0x95
  | .res2AtHl => encCb 0x96
  | .res2A => encCb 0x97
  | .res3B => encCb 0x98
  | .res3C => encCb 0x99
  | .res3D => encCb 0x9A
  | .res3E => encCb 0x9B
  | .res3H => encCb 0x9C
  | .res3L => encCb 0x9D
  | .res3AtHl => encCb 0x9E
  | .res3A => encCb 0x9F
  | .res4B => encCb 0xA0
  | .res4C => encCb 0xA1
  | .res4D => encCb 0xA2
  | .res4E => encCb 0xA3
  | .res4H => encCb 0xA4
  | .res4L => encCb 0xA5
  | .res4AtHl => encCb 0xA6
  | .res4A => encCb 0xA7
  | .res5B => encCb 0xA8
  | .res5C => encCb 0xA9
  | .res5D => encCb 0xAA
  | .res5E => encCb 0xAB
  | .res5H => encCb 0xAC
  | .res5L => encCb 0xAD
  | .res5AtHl => encCb 0xAE
  | .res5A => encCb 0xAF
  | .res6B => encCb 0xB0
  | .res6C => encCb 0xB1
  | .res6D => encCb 0xB2
  | .res6E => encCb 0xB3
  | .res6H => encCb 0xB4
  | .res6L => encCb 0xB5
  | .res6AtHl => encCb 0xB6
  | .res6A => encCb 0xB7
  | .res7B => encCb 0xB8
  | .res7C => encCb 0xB9
  | .res7D => encCb 0xBA
  | .res7E => encCb 0xBB
  | .res7H => encCb 0xBC
  | .res7L => encCb 0xBD
  | .res7AtHl => encCb 0xBE
  | .res7A => encCb 0xBF
  | .set0B => encCb 0xC0
  | .set0C => encCb 0xC1
  | .set0D => encCb 0xC2
  | .set0E => encCb 0xC3
  | .set0H => encCb 0xC4
  | .set0L => encCb 0xC5
  | .set0AtHl => encCb 0xC6
  | .set0A => encCb 0xC7
  | .set1B => encCb 0xC8
  | .set1C => encCb 0xC9
  | .set1D => encCb 0xCA
  | .set1E => encCb 0xCB
  | .set1H => encCb 0xCC
  | .set1L => encCb 0xCD
  | .set1AtHl => encCb 0xCE
  | .set1A => encCb 0xCF
  | .set2B => encCb 0xD0
  | .set2C => encCb 0xD1
  | .set2D => encCb 0xD2
  | .set2E => encCb 0xD3
  | .set2H => encCb 0xD4
  | .set2L => encCb 0xD5
  | .set2AtHl => encCb 0xD6
  | .set2A => encCb 0xD7
  | .set3B => encCb 0xD8
  | .set3C => encCb 0xD9
  | .set3D => encCb 0xDA
  | .set3E => encCb 0xDB
  | .set3H => encCb 0xDC
  | .set3L => encCb 0xDD
  | .set3AtHl => encCb 0xDE
  | .set3A => encCb 0xDF
  | .set4B => encCb 0xE0
  | .set4C => encCb 0xE1
  | .set4D => encCb 0xE2
  | .set4E => encCb 0xE3
  | .set4H => encCb 0xE4
  | .set4L => encCb 0xE5
  | .set4AtHl => encCb 0xE6
  | .set4A => encCb 0xE7
  | .set5B => encCb 0xE8
  | .set5C => encCb 0xE9
  | .set5D => encCb 0xEA
  | .set5E => encCb 0xEB
  | .set5H => encCb 0xEC
  | .set5L => encCb 0xED
  | .set5AtHl => encCb 0xEE
  | .set5A => encCb 0xEF
  | .set6B => encCb 0xF0
  | .set6C => encCb 0xF1
  | .set6D => encCb 0xF2
  | .set6E => encCb 0xF3
  | .set6H => encCb 0xF4
  | .set6L => encCb 0xF5
  | .set6AtHl => encCb 0xF6
  | .set6A => encCb 0xF7
  | .set7B => encCb 0xF8
  | .set7C => encCb 0xF9
  | .set7D => encCb 0xFA
  | .set7E => encCb 0xFB
  | .set7H => encCb 0xFC
  | .set7L => encCb 0xFD
  | .set7AtHl => encCb 0xFE
  | .set7A => encCb 0xFF

/-! ### Table words -/

/-- The bytes of a table word of `nbits` bits. spec/opcode_table.json numbers a prefixed row as
`{byte0, byte1}` with byte 0 = 0xCB the high half (30_encoding.md R174); every other word is laid out
low byte first (Log 19). -/
def tableBytes (nbits w : Nat) : List Byte :=
  if nbits = 16 ∧ w / 256 % 256 = 0xCB then [0xCB, BitVec.ofNat 8 w, 0]
  else (List.range (max 3 (nbits / 8))).map fun k => BitVec.ofNat 8 (w % 2 ^ nbits / 256 ^ k)

/-- The instruction the decoder reads from a table word; absent bytes are 0. -/
def decodeTableWord (nbits w : Nat) : Option Instr :=
  match decode (tableBytes nbits w) with
  | .ok (i, _) => some i
  | .error _ => none

end Sys2Proof
end

