-- ==== Sys2Proof/Config.lean ====
section
/-!
DEFINITION. Config.lean: the launch parameters of 00_scope.md R11 that are choices of a few values, with the
defaults the spec names (92_eei_decisions.md, "Open parameters"). The parameters that are data (CART_IMAGE,
BOOT_IMAGE, RAM_INIT, RtcNow, HostIrq) are fields of State or arguments of `powerOn` (Log 1). The spec leaves
no result of an instruction undefined (93_implementation_defined.md, part 1), so there is no opaque constant.
-/

namespace Sys2Proof.Config

/-- STOP_BEHAVIOUR (00_scope.md R11, 92_eei_decisions.md D10). -/
inductive StopBehaviour where
  /-- STOP is a 2-byte instruction with no effect; the default -/
  | nop2
  /-- the model declines to continue at STOP -/
  | refuse
deriving DecidableEq, Repr

/-- JoypadRead (00_scope.md R11, 20_memory.md R82): the function from the two select bits to the byte a read
of 0xFF00 returns, as its four values (Log 3). -/
structure JoypadRead where
  /-- the byte read while JOYP_SEL = 0 -/
  sel0 : Byte
  /-- the byte read while JOYP_SEL = 1 -/
  sel1 : Byte
  /-- the byte read while JOYP_SEL = 2 -/
  sel2 : Byte
  /-- the byte read while JOYP_SEL = 3 -/
  sel3 : Byte
deriving DecidableEq, Repr

/-- The default host of 92_eei_decisions.md: no key pressed, `0xC0 | (sel << 4) | 0x0F`.
DESIGN CHOICE, unsafe for a run from reset (Log 3). -/
def noKeyPressed : JoypadRead := { sel0 := 0xCF, sel1 := 0xDF, sel2 := 0xEF, sel3 := 0xFF }

/-- The length of the blank type-0 image State.reset holds: 32 KiB (21_cartridge.md R112).
DESIGN CHOICE, unsafe for a run from reset (Log 6). -/
def blankImageSize : Nat := 0x8000

end Sys2Proof.Config
end

