-- ==== Sys2Proof/Machine/State.lean ====
section
/-!
DEFINITION. Machine/State.lean: the complete state of the machine as plain data, block by block in the order
of 10_state.md R20, the launch parameters and host inputs a run reads (00_scope.md R11), the reasons a step
can stop, and the state right after reset.
-/

namespace Sys2Proof.Machine

/-- A block of cells of `w` bits as a sparse list of (index, value) pairs: indexes strictly rising, no entry
equal to what an unlisted index reads as (Machine/Cells.lean). -/
abbrev Cells (w : Nat) := List (Nat × BitVec w)

/-- A block of bytes, keyed by the byte's index in its block. -/
abbrev Memory := List Host.Cell

/-- A 144 by 160 picture of 2-bit shades, cell (row, column) at index 160 * row + column (61_ppu.md R493). -/
abbrev Frame := Cells 2

/-- The flag register F: bits 7, 6, 5, 4. Bits 3 to 0 are always 0 and are not stored (10_state.md R23, Log 11). -/
structure Flags where
  z : Bool
  n : Bool
  h : Bool
  c : Bool
deriving DecidableEq, Repr

/-- The CPU block (10_state.md R20 to R31). -/
structure Cpu where
  a : Byte
  b : Byte
  c : Byte
  d : Byte
  e : Byte
  h : Byte
  l : Byte
  f : Flags
  sp : Word
  pc : Word
  /-- interrupt master enable (R27) -/
  ime : Bool
  /-- the EI delay counter, 0 to 2 (R28) -/
  imeDelay : Nat
  halted : Bool
  haltBug : Bool
  /-- sticky (R31) -/
  fatal : Bool
  /-- the invalid opcode that made the machine FATAL, which the host can observe (60_exceptions.md R401, Log 9) -/
  illegalOp : Option Byte
deriving DecidableEq, Repr

/-- The interrupt controller (10_state.md R32). -/
structure Interrupts where
  /-- IF, 0xFF0F -/
  iflag : Byte
  /-- IE, 0xFFFF -/
  ie : Byte
deriving DecidableEq, Repr

/-- The timer (10_state.md R33). -/
structure Timer where
  /-- the system counter; DIV is its high byte -/
  sysctr : Word
  tima : Byte
  tma : Byte
  tac : Byte
  /-- cycles until a pending reload, 0 to 4; 0 is nothing pending -/
  reloadDelay : Nat
deriving DecidableEq, Repr

/-- The PPU (10_state.md R34 to R36, 61_ppu.md R505). The mode is STAT[1:0]. -/
structure Ppu where
  lcdc : Byte
  stat : Byte
  scy : Byte
  scx : Byte
  ly : Byte
  lyc : Byte
  dma : Byte
  bgp : Byte
  obp0 : Byte
  obp1 : Byte
  wy : Byte
  wx : Byte
  modeClock : Nat
  /-- 8,192 bytes, index = bus address - 0x8000 -/
  vram : Memory
  /-- 160 bytes, index = bus address - 0xFE00 -/
  oam : Memory
  /-- the framebuffer the renderer writes -/
  fb : Frame
  /-- the frame output: the copy of FB published once per frame (61_ppu.md R505) -/
  frameOut : Frame
  /-- how many frames have been published (61_ppu.md R505, Log 8) -/
  frames : Nat
deriving DecidableEq, Repr

/-- Bus-owned state (10_state.md R37). -/
structure Bus where
  /-- 8,192 bytes, index = bus address - 0xC000 -/
  wram : Memory
  /-- 127 bytes, index = bus address - 0xFF80 -/
  hram : Memory
  bootEnabled : Bool
  sb : Byte
  sc : Byte
  joypSel : BitVec 2
  /-- the serial debug output, oldest byte first; append-only (20_memory.md R84) -/
  serialSink : List Byte
deriving DecidableEq, Repr

/-- The three bank controllers (21_cartridge.md R110). -/
inductive Variant where
  | type0
  | type1
  | type3
deriving DecidableEq, Repr

/-- The five real-time-clock registers, index 0 to 4 (21_cartridge.md R142). -/
structure Rtc where
  seconds : Byte
  minutes : Byte
  hours : Byte
  dayLow : Byte
  dayHigh : Byte
deriving DecidableEq, Repr

/-- The cartridge: its image and the constants of its header, which no step changes, and the fields of its
bank controller (10_state.md R38). -/
structure Cart where
  /-- CART_IMAGE: the bytes of the ROM image (00_scope.md R11) -/
  image : Memory
  /-- the length of CART_IMAGE; a read at or beyond it gives 0xFF (20_memory.md R71) -/
  imageSize : Nat
  variant : Variant
  hasRtc : Bool
  romBanks : Nat
  /-- in bytes -/
  ramSize : Nat
  /-- 5 significant bits in type 1, 7 in type 3; never 0 -/
  romBankReg : BitVec 7
  /-- 2 significant bits in type 1, 8 in type 3 -/
  secReg : Byte
  ramEnable : Bool
  bankMode : Bool
  cram : Memory
  rtcLive : Rtc
  rtcLatched : Rtc
  /-- the RtcNow from which elapsed time is counted, in seconds -/
  rtcBase : Nat
  latchPrev : Byte
deriving DecidableEq, Repr

/-- What the host does at one step boundary (20_memory.md R102): it may change what JoypadRead returns, request
the Joypad interrupt (HostIrq), and let `seconds` pass on the wall clock (RtcNow never decreases, Log 2). -/
structure HostAction where
  joypad : Option Config.JoypadRead
  requestJoypad : Bool
  seconds : Nat
deriving DecidableEq, Repr

/-- The launch parameters and host inputs a step reads (00_scope.md R11, Log 1). -/
structure Env where
  /-- BOOT_IMAGE, read only while boot_enabled = 1 -/
  bootImage : Memory
  stop : Config.StopBehaviour
  joypad : Config.JoypadRead
  /-- RtcNow, in seconds -/
  rtcNow : Nat
  /-- what the host does at the coming step boundaries, the next one first (Log 2) -/
  actions : List HostAction
deriving DecidableEq, Repr

/-- The state of the whole machine. -/
structure State where
  cpu : Cpu
  ic : Interrupts
  timer : Timer
  ppu : Ppu
  bus : Bus
  cart : Cart
  env : Env
  /-- the cycle count the last scheduler step returned; none before the first step and for a step that
  returned none (60_exceptions.md R440, R401; the model's own field, Log 8) -/
  cycles : Option Nat
deriving DecidableEq, Repr

/-- Why the machine has no next state. -/
inductive Fault where
  /-- Raised by `step` in the FATAL state (fatal = 1): "From then on the machine has no next state"
  (60_exceptions.md R401). Safe: the spec defines no step there. -/
  | fatalStuck
deriving DecidableEq, Repr

/-- Why the model declines to continue. -/
inductive Refusal where
  /-- Raised by an arm of `exec` whose instruction has no meaning yet. Safe. -/
  | notModelled (mnemonic : String)
  /-- Raised by STOP when the launch parameter STOP_BEHAVIOUR is `refuse`: "program used STOP, behaviour not
  specified" (46_system.md R381). Safe: the spec defines no further step for that parameter. -/
  | stopNotSpecified
deriving DecidableEq, Repr

/-- What an instruction, or a step, ends in. -/
abbrev Result := Host.Outcome State Fault Refusal

/-- The state right after reset: profile POST-BOOT of 10_state.md R41 (BOOT_IMAGE = none, RAM_INIT = zero,
STOP_BEHAVIOUR = nop2), with a blank 32 KiB type-0 cartridge and the default host (Log 3 to 6). -/
def State.reset : State where
  cpu :=
    { a := 0x01, b := 0x00, c := 0x13, d := 0x00, e := 0xD8, h := 0x01, l := 0x4D
      f := { z := true, n := false, h := true, c := true }
      sp := 0xFFFE, pc := 0x0100
      ime := false, imeDelay := 0, halted := false, haltBug := false, fatal := false, illegalOp := none }
  ic := { iflag := 0x00, ie := 0x00 }
  timer := { sysctr := 0, tima := 0, tma := 0, tac := 0, reloadDelay := 0 }
  ppu :=
    { lcdc := 0x91, stat := 0x02, scy := 0, scx := 0, ly := 0, lyc := 0, dma := 0
      bgp := 0xFC, obp0 := 0x00, obp1 := 0x00, wy := 0, wx := 0, modeClock := 0
      vram := [], oam := [], fb := [], frameOut := [], frames := 0 }
  bus :=
    { wram := [], hram := [], bootEnabled := false, sb := 0, sc := 0, joypSel := 0, serialSink := [] }
  cart :=
    { image := [], imageSize := Config.blankImageSize, variant := .type0, hasRtc := false, romBanks := 2
      ramSize := 0, romBankReg := 1, secReg := 0, ramEnable := false, bankMode := false, cram := []
      rtcLive := { seconds := 0, minutes := 0, hours := 0, dayLow := 0, dayHigh := 0 }
      rtcLatched := { seconds := 0, minutes := 0, hours := 0, dayLow := 0, dayHigh := 0 }
      rtcBase := 0, latchPrev := 0xFF }
  env :=
    { bootImage := [], stop := .nop2, joypad := Config.noKeyPressed, rtcNow := 0, actions := [] }
  cycles := none

end Sys2Proof.Machine
end

