-- ==== Sys2Proof/Machine/Cells.lean ====
section
/-!
DEFINITION. Machine/Cells.lean: reading and writing one cell of a memory block, and the canonical form in
which equal memories are equal lists. The five RAMs, the images and the two pictures are all `Cells`.
-/

namespace Sys2Proof.Machine

/-- What an unlisted cell reads as: 0, the default RAM_INIT = zero (10_state.md R41, 92_eei_decisions.md D21).
DESIGN CHOICE, unsafe: a RAM of the console holds anything after power-on (Log 5). -/
def Cells.unlisted (w : Nat) : BitVec w := 0

/-- The cell at index `k`. -/
def Cells.read {w : Nat} : Cells w → Nat → BitVec w
  | [], _ => Cells.unlisted w
  | (i, v) :: rest, k => if i = k then v else Cells.read rest k

/-- The list with the entry `(k, v)` put before the first greater index. -/
def Cells.insertCell {w : Nat} : Cells w → Nat → BitVec w → Cells w
  | [], k, v => [(k, v)]
  | (i, x) :: rest, k, v => if k < i then (k, v) :: (i, x) :: rest else (i, x) :: Cells.insertCell rest k v

/-- The list without an entry for `k`. -/
def Cells.erase {w : Nat} (m : Cells w) (k : Nat) : Cells w := m.filter fun p => p.1 != k

/-- `m[k] <- v`: writing what an unlisted cell reads as removes the entry. -/
def Cells.write {w : Nat} (m : Cells w) (k : Nat) (v : BitVec w) : Cells w :=
  if v = Cells.unlisted w then m.erase k else (m.erase k).insertCell k v

/-- The canonical form: indexes strictly rising, no entry equal to what an unlisted cell reads as. -/
abbrev Cells.wf {w : Nat} (m : Cells w) : Prop :=
  m.Pairwise (fun p q => p.1 < q.1) ∧ ∀ p ∈ m, p.2 ≠ Cells.unlisted w

/-- The canonical form of a block of bytes. -/
abbrev Memory.wf (m : Memory) : Prop := Cells.wf (w := 8) m

/-- Every listed index is below `n`, the size of the block. -/
abbrev Cells.below {w : Nat} (m : Cells w) (n : Nat) : Prop := ∀ p ∈ m, p.1 < n

/-- The cells `k`, `k + 1`, … holding the values of a list, in canonical form. -/
def Cells.ofList {w : Nat} (k : Nat) : List (BitVec w) → Cells w
  | [] => []
  | v :: vs => if v = Cells.unlisted w then Cells.ofList (k + 1) vs else (k, v) :: Cells.ofList (k + 1) vs

end Sys2Proof.Machine
end

