-- ==== Sys2Proof/Machine/Cartridge.lean ====
section
/-!
DEFINITION. Machine/Cartridge.lean: the cartridge's side of its two windows, ROM at 0x0000 to 0x7FFF and RAM or
clock at 0xA000 to 0xBFFF, for the three bank controllers (21_cartridge.md R110 to R142).
-/

namespace Sys2Proof.Machine

/-- `CART_IMAGE[i]`, 0xFF at or beyond the end of the image (20_memory.md R71, 92_eei_decisions.md D18). -/
def Cart.imageByte (k : Cart) (i : Nat) : Byte := if i < k.imageSize then Cells.read k.image i else 0xFF

/-- EffRomBank: the bank the window 0x4000 to 0x7FFF shows (21_cartridge.md R115, R123, R133). -/
def Cart.effRomBank (k : Cart) : Nat :=
  match k.variant with
  | .type0 => 1
  | .type1 =>
    if k.bankMode then k.romBankReg.toNat % 32 % k.romBanks
    else (k.secReg.toNat % 4 * 32 + k.romBankReg.toNat % 32) % k.romBanks
  | .type3 => k.romBankReg.toNat % k.romBanks

/-- The index in CART_IMAGE of the byte that address `a` of the ROM window shows, `a` below 0x8000 (20_memory.md R71,
R72). -/
def Cart.romIndex (k : Cart) (a : Nat) : Nat := if a < 0x4000 then a else k.effRomBank * 0x4000 + (a - 0x4000)

/-- A read of the ROM window, `a` below 0x8000 (20_memory.md R71, R72). -/
def Cart.readRom (k : Cart) (a : Nat) : Byte := k.imageByte (k.romIndex a)

/-- Register `i` of the clock, 0 seconds to 4 day-high (21_cartridge.md R138, R142). -/
def Rtc.get (r : Rtc) (i : Nat) : Byte :=
  match i with
  | 0 => r.seconds
  | 1 => r.minutes
  | 2 => r.hours
  | 3 => r.dayLow
  | _ => r.dayHigh

/-- Register `i` of the clock replaced. -/
def Rtc.set (r : Rtc) (i : Nat) (v : Byte) : Rtc :=
  match i with
  | 0 => { r with seconds := v }
  | 1 => { r with minutes := v }
  | 2 => { r with hours := v }
  | 3 => { r with dayLow := v }
  | _ => { r with dayHigh := v }

/-- The halt bit of the clock, day-high bit 6 (21_cartridge.md R142). -/
def Rtc.halted (r : Rtc) : Bool := r.dayHigh.getLsbD 6

/-- The latched registers of a running clock, `elapsed` seconds after its baseline (21_cartridge.md R135). -/
def Rtc.advanced (r : Rtc) (elapsed : Nat) : Rtc :=
  let d0 := r.dayLow.toNat + 256 * (r.dayHigh &&& 1).toNat
  let t := r.seconds.toNat + 60 * r.minutes.toNat + 3600 * r.hours.toNat + 86400 * d0 + elapsed
  let d := t / 86400
  { seconds := BitVec.ofNat 8 (t % 60)
    minutes := BitVec.ofNat 8 (t / 60 % 60)
    hours := BitVec.ofNat 8 (t / 3600 % 24)
    dayLow := BitVec.ofNat 8 (d % 256)
    dayHigh := (r.dayHigh &&& 0x80) ||| (if d > 511 then 0x80 else 0) ||| BitVec.ofNat 8 (d / 256 % 2) }

/-- `LatchRtc()` at wall-clock time `now` (21_cartridge.md R135); RtcNow never falls below rtc_base (Log 12). -/
def Cart.latchRtc (now : Nat) (k : Cart) : Cart :=
  { k with rtcLatched := if k.rtcLive.halted then k.rtcLive else k.rtcLive.advanced (now - k.rtcBase) }

/-- The RAM-enable latch: on iff the low nibble written is 0xA (21_cartridge.md R120, R130). -/
def ramEnableOf (v : Byte) : Bool := v &&& 0x0F == 0x0A

/-- A bank number written to the ROM-bank register, 0 coerced to 1 after masking (21_cartridge.md R121, R131). -/
def romBankOf (mask v : Byte) : BitVec 7 :=
  let b := (v &&& mask).setWidth 7
  if b = 0 then 1 else b

/-- A type-1 bank-controller write, by the four 8 KiB windows (21_cartridge.md R120, R121, R122, R124). -/
def Cart.writeType1 (k : Cart) (a : Nat) (v : Byte) : Cart :=
  if a < 0x2000 then { k with ramEnable := ramEnableOf v }
  else if a < 0x4000 then { k with romBankReg := romBankOf 0x1F v }
  else if a < 0x6000 then { k with secReg := v &&& 0x03 }
  else { k with bankMode := v.getLsbD 0 }

/-- The latch-control window of type 3 (21_cartridge.md R134, R136). -/
def Cart.writeLatch (now : Nat) (k : Cart) (v : Byte) : Cart :=
  let k' := if k.latchPrev = 0x00 ∧ v = 0x01 ∧ k.hasRtc = true then k.latchRtc now else k
  { k' with latchPrev := v }

/-- A type-3 bank-controller write (21_cartridge.md R130, R131, R132, R134). -/
def Cart.writeType3 (now : Nat) (k : Cart) (a : Nat) (v : Byte) : Cart :=
  if a < 0x2000 then { k with ramEnable := ramEnableOf v }
  else if a < 0x4000 then { k with romBankReg := romBankOf 0x7F v }
  else if a < 0x6000 then { k with secReg := v }
  else k.writeLatch now v

/-- A write to the ROM window, `a` below 0x8000: never a change of ROM, only of the bank controller's registers
(20_memory.md R73; type 0 ignores it, 21_cartridge.md R116). -/
def Cart.writeRom (now : Nat) (k : Cart) (a : Nat) (v : Byte) : Cart :=
  match k.variant with
  | .type0 => k
  | .type1 => k.writeType1 a v
  | .type3 => k.writeType3 now a v

/-- What stands behind an address of the external window. -/
inductive ExtCell where
  /-- nothing: reads 0xFF, writes discarded -/
  | absent
  /-- byte `i` of the cartridge RAM -/
  | cram (i : Nat)
  /-- clock register `i` -/
  | clock (i : Nat)
deriving DecidableEq, Repr

/-- The cell behind offset `off` of the external window 0xA000 to 0xBFFF (21_cartridge.md R117, R125, R136 to R139). -/
def Cart.extCell (k : Cart) (off : Nat) : ExtCell :=
  match k.variant with
  | .type0 => if k.ramSize = 0 then .absent else .cram (off % k.ramSize)
  | .type1 =>
    if k.ramSize = 0 ∨ k.ramEnable = false then .absent
    else .cram (((if k.bankMode then k.secReg.toNat % 4 else 0) * 0x2000 + off) % k.ramSize)
  | .type3 =>
    if k.ramEnable = false then .absent
    else if k.secReg.toNat ≤ 0x03 then
      if k.ramSize = 0 then .absent else .cram ((k.secReg.toNat * 0x2000 + off) % k.ramSize)
    else if k.hasRtc = true ∧ 0x08 ≤ k.secReg.toNat ∧ k.secReg.toNat ≤ 0x0C then .clock (k.secReg.toNat - 8)
    else .absent

/-- A read of the external window; a clock register reads its latched copy (21_cartridge.md R138). -/
def Cart.readExt (k : Cart) (off : Nat) : Byte :=
  match k.extCell off with
  | .absent => 0xFF
  | .cram i => Cells.read k.cram i
  | .clock i => k.rtcLatched.get i

/-- A write to clock register `i` (21_cartridge.md R140): stored unmasked in the live registers; day-high going
from halted to running restarts the baseline. -/
def Cart.writeClock (now : Nat) (k : Cart) (i : Nat) (v : Byte) : Cart :=
  { k with
    rtcLive := k.rtcLive.set i v
    rtcBase := if i = 4 ∧ k.rtcLive.halted = true ∧ v.getLsbD 6 = false then now else k.rtcBase }

/-- A write to the external window. -/
def Cart.writeExt (now : Nat) (k : Cart) (off : Nat) (v : Byte) : Cart :=
  match k.extCell off with
  | .absent => k
  | .cram i => { k with cram := Cells.write k.cram i v }
  | .clock i => k.writeClock now i v

end Sys2Proof.Machine
end

