-- ==== Sys2Proof/Machine/Interrupts.lean ====
section
/-!
DEFINITION. Machine/Interrupts.lean: the interrupt controller (60_exceptions.md R410 to R415). It holds no
priority logic; the CPU picks the lowest pending bit (R422, R423).
-/

namespace Sys2Proof.Machine

/-- `Request(n)`: `IF <- IF | (1 << n)` (60_exceptions.md R411). -/
def Interrupts.request (ic : Interrupts) (n : Nat) : Interrupts := { ic with iflag := ic.iflag ||| ((1 : Byte) <<< n) }

/-- `Clear(n)`: `IF <- IF & ~(1 << n)` (60_exceptions.md R412). -/
def Interrupts.clear (ic : Interrupts) (n : Nat) : Interrupts := { ic with iflag := ic.iflag &&& ~~~((1 : Byte) <<< n) }

/-- `pending <- IF & IE & 0x1F` (60_exceptions.md R422). -/
def Interrupts.pending (ic : Interrupts) : Byte := ic.iflag &&& ic.ie &&& 0x1F

/-- The index of the lowest set bit of a pending mask (60_exceptions.md R420, R423); 0 for an empty mask,
which dispatch is never given. -/
def lowestPending (p : Byte) : Nat :=
  if p.getLsbD 0 then 0 else if p.getLsbD 1 then 1 else if p.getLsbD 2 then 2
  else if p.getLsbD 3 then 3 else if p.getLsbD 4 then 4 else 0

/-- The vector of source `n`: `0x0040 + 8 x n` (60_exceptions.md R413). -/
def vector (n : Nat) : Word := 0x0040 + BitVec.ofNat 16 (8 * n)

/-- `Request(n)` on the machine. -/
def State.request (s : State) (n : Nat) : State := { s with ic := s.ic.request n }

end Sys2Proof.Machine
end

