-- ==== Sys2Proof/Machine/Renderer.lean ====
section
/-!
DEFINITION. Machine/Renderer.lean: the scanline renderer of the PPU, a function of LCDC, SCY, SCX, WY, WX, BGP,
OBP0, OBP1, VRAM and OAM that writes the 160 cells of one line of FB (61_ppu.md R480 to R493).
-/

namespace Sys2Proof.Machine

/-- `VRAM[a]`, the byte at bus address `a` (61_ppu.md R481). -/
def Ppu.vramAt (p : Ppu) (a : Nat) : Byte := Cells.read p.vram (a - 0x8000)

/-- `TilePix(addr, r, k)`: the pixel in row `r`, column `k` of the tile at `addr`, high plane as bit 1 (61_ppu.md R481). -/
def Ppu.tilePix (p : Ppu) (addr r k : Nat) : BitVec 2 :=
  BitVec.ofBool ((p.vramAt (addr + 2 * r + 1)).getLsbD (7 - k)) ++
    BitVec.ofBool ((p.vramAt (addr + 2 * r)).getLsbD (7 - k))

/-- `BgTileAddr(t)`: unsigned from 0x8000 or signed around 0x9000 by LCDC bit 4 (61_ppu.md R482). -/
def Ppu.bgTileAddr (p : Ppu) (t : Byte) : Nat :=
  if p.lcdc.getLsbD 4 then 0x8000 + 16 * t.toNat else (0x9000 + 16 * t.toInt).toNat

/-- The pixel at row `py`, column `px` of the 256 by 256 picture that the tile map at `map` describes
(61_ppu.md R483, R484). -/
def Ppu.mapPix (p : Ppu) (map py px : Nat) : BitVec 2 :=
  p.tilePix (p.bgTileAddr (p.vramAt (map + 32 * (py / 8) + px / 8))) (py % 8) (px % 8)

/-- The base of a tile map: 0x9C00 or 0x9800 by one LCDC bit (61_ppu.md R483, R484). -/
def Ppu.mapBase (p : Ppu) (bit : Nat) : Nat := if p.lcdc.getLsbD bit then 0x9C00 else 0x9800

/-- The background pixel at column `x` of line `ly` (61_ppu.md R483). -/
def Ppu.backgroundPix (p : Ppu) (ly x : Nat) : BitVec 2 :=
  p.mapPix (p.mapBase 3) ((ly + p.scy.toNat) % 256) ((x + p.scx.toNat) % 256)

/-- Whether the window covers column `x` of line `ly` (61_ppu.md R484). -/
def Ppu.windowCovers (p : Ppu) (ly x : Nat) : Bool :=
  p.lcdc.getLsbD 5 && decide (p.wy.toNat ≤ ly) && decide (p.wx.toNat ≤ 166) && decide (p.wx.toNat ≤ x + 7)

/-- The window pixel at column `x` of line `ly`, its row `ly - WY` and its column `x - (WX - 7)` (61_ppu.md R484,
92_eei_decisions.md D26). -/
def Ppu.windowPix (p : Ppu) (ly x : Nat) : BitVec 2 :=
  p.mapPix (p.mapBase 6) (ly - p.wy.toNat) (x + 7 - p.wx.toNat)

/-- `bgidx[x]` of line `ly`: 0 when LCDC bit 0 is clear, else the window's pixel where it covers the column,
else the background's (61_ppu.md R483, R484, R486). -/
def Ppu.bgIdx (p : Ppu) (ly x : Nat) : BitVec 2 :=
  if p.lcdc.getLsbD 0 = false then 0
  else if p.windowCovers ly x then p.windowPix ly x
  else p.backgroundPix ly x

/-- `Shade(pal, i) <- pal[2i + 1 : 2i]` (61_ppu.md R485). -/
def shade (pal : Byte) (i : BitVec 2) : BitVec 2 := pal.extractLsb' (2 * i.toNat) 2

/-- One OAM entry (10_state.md R36). -/
structure Sprite where
  y : Byte
  x : Byte
  tile : Byte
  attr : Byte
deriving DecidableEq, Repr

/-- OAM entry `i`: bytes 4i to 4i + 3 (10_state.md R36). -/
def Ppu.sprite (p : Ppu) (i : Nat) : Sprite :=
  { y := Cells.read p.oam (4 * i), x := Cells.read p.oam (4 * i + 1)
    tile := Cells.read p.oam (4 * i + 2), attr := Cells.read p.oam (4 * i + 3) }

/-- The sprite height, 16 or 8 by LCDC bit 2 (61_ppu.md R490). -/
def Ppu.spriteHeight (p : Ppu) : Nat := if p.lcdc.getLsbD 2 then 16 else 8

/-- `Y - 16 <= ly < Y - 16 + h` (61_ppu.md R490). -/
def Ppu.spriteOnLine (p : Ppu) (ly : Nat) (o : Sprite) : Bool :=
  decide (o.y.toNat ≤ ly + 16) && decide (ly + 16 < o.y.toNat + p.spriteHeight)

/-- `sel`: the first ten matching entries of the scan from entry 39 down to 0 (61_ppu.md R490, D24). -/
def Ppu.selectedSprites (p : Ppu) (ly : Nat) : List Sprite :=
  (((List.range 40).reverse.map p.sprite).filter (p.spriteOnLine ly)).take 10

/-- The row of the sprite that line `ly` shows, flipped by attribute bit 6 (61_ppu.md R491). -/
def Ppu.spriteRow (p : Ppu) (ly : Nat) (o : Sprite) : Nat :=
  let r := ly + 16 - o.y.toNat
  if o.attr.getLsbD 6 then p.spriteHeight - 1 - r else r

/-- The address of the sprite's tile; bit 0 of the index is ignored in 8 x 16 mode (61_ppu.md R491, R482). -/
def Ppu.spriteTileAddr (p : Ppu) (o : Sprite) : Nat :=
  0x8000 + 16 * (if p.lcdc.getLsbD 2 then o.tile &&& 0xFE else o.tile).toNat

/-- The colour index of the sprite's pixel in its column `k`, flipped by attribute bit 5 (61_ppu.md R491). -/
def Ppu.spriteIdx (p : Ppu) (ly : Nat) (o : Sprite) (k : Nat) : BitVec 2 :=
  p.tilePix (p.spriteTileAddr o) (p.spriteRow ly o) (if o.attr.getLsbD 5 then 7 - k else k)

/-- OBP1 or OBP0 by attribute bit 4 (61_ppu.md R491). -/
def Ppu.spritePalette (p : Ppu) (o : Sprite) : Byte := if o.attr.getLsbD 4 then p.obp1 else p.obp0

/-- Whether the sprite's pixel in its column `k` is drawn: on the screen, not transparent, and not behind a
non-zero background pixel when attribute bit 7 is set (61_ppu.md R491). -/
def Ppu.spriteDraws (p : Ppu) (ly : Nat) (o : Sprite) (k : Nat) : Bool :=
  decide (8 ≤ o.x.toNat + k) && decide (o.x.toNat + k < 168) && p.spriteIdx ly o k != 0 &&
    !(o.attr.getLsbD 7 && p.bgIdx ly (o.x.toNat + k - 8) != 0)

/-- The index of `FB[ly][x]` (61_ppu.md R493). -/
def fbIndex (ly x : Nat) : Nat := 160 * ly + x

/-- One pixel of one sprite drawn over FB. -/
def Ppu.drawSpritePix (p : Ppu) (ly : Nat) (o : Sprite) (fb : Frame) (k : Nat) : Frame :=
  if p.spriteDraws ly o k then
    Cells.write fb (fbIndex ly (o.x.toNat + k - 8)) (shade (p.spritePalette o) (p.spriteIdx ly o k))
  else fb

/-- One sprite drawn over FB (61_ppu.md R491). -/
def Ppu.drawSprite (p : Ppu) (ly : Nat) (fb : Frame) (o : Sprite) : Frame :=
  (List.range 8).foldl (p.drawSpritePix ly o) fb

/-- Background and window: `FB[ly][x] <- Shade(BGP, bgidx[x])` for every `x` (61_ppu.md R480). -/
def Ppu.drawBackground (p : Ppu) (ly : Nat) : Frame :=
  (List.range 160).foldl (fun fb x => Cells.write fb (fbIndex ly x) (shade p.bgp (p.bgIdx ly x))) p.fb

/-- `RenderScanline(ly)`, `ly` in 0 to 143 (61_ppu.md R480): the FB after it. No run reaches a greater line here;
there it draws nothing (61_ppu.md R507, Log 13). -/
def Ppu.renderScanline (p : Ppu) (ly : Nat) : Frame :=
  if ly < 144 then
    let fb := p.drawBackground ly
    if p.lcdc.getLsbD 1 then (p.selectedSprites ly).foldl (p.drawSprite ly) fb else fb
  else p.fb

end Sys2Proof.Machine
end

