-- ==== Sys2Proof/Machine/Ppu.lean ====
section
/-!
DEFINITION. Machine/Ppu.lean: the PPU's state machine (61_ppu.md R460 to R479, R505) and the write masks of its
registers (20_memory.md R87).
-/

namespace Sys2Proof.Machine

/-- The mode, STAT[1:0]: 0 H-blank, 1 V-blank, 2 OAM-scan, 3 pixel-transfer (10_state.md R35). -/
def Ppu.mode (p : Ppu) : BitVec 2 := p.stat.setWidth 2

/-- STAT with new mode bits. -/
def Ppu.withMode (p : Ppu) (m : BitVec 2) : Ppu := { p with stat := (p.stat &&& 0xFC) ||| m.setWidth 8 }

/-- A CPU write to STAT: `STAT <- (v & 0xF8) | (STAT & 0x07)` (20_memory.md R87, D15). -/
def Ppu.writeStat (p : Ppu) (v : Byte) : Ppu := { p with stat := (v &&& 0xF8) ||| (p.stat &&& 0x07) }

/-- `Request(n)` if a condition holds. -/
def Interrupts.requestIf (ic : Interrupts) (cond : Bool) (n : Nat) : Interrupts := if cond then ic.request n else ic

/-- The requests of a mode entry, by STAT's enable bits; V-blank always requests source 0 (61_ppu.md R476). -/
def modeRequests (stat : Byte) (m : BitVec 2) (ic : Interrupts) : Interrupts :=
  match m.toNat with
  | 0 => ic.requestIf (stat.getLsbD 3) 1
  | 1 => (ic.request 0).requestIf (stat.getLsbD 4) 1
  | 2 => ic.requestIf (stat.getLsbD 5) 1
  | _ => ic

/-- `EnterMode(m)` (61_ppu.md R476). -/
def State.enterMode (s : State) (m : BitVec 2) : State :=
  { s with ppu := s.ppu.withMode m, ic := modeRequests s.ppu.stat m s.ic }

/-- `SetLY(v)` (61_ppu.md R473): the LYC flag is STAT[2], its enable STAT[6]. -/
def State.setLy (s : State) (v : Byte) : State :=
  if v = s.ppu.lyc then
    { s with
      ppu := { s.ppu with ly := v, stat := s.ppu.stat ||| 0x04 }
      ic := s.ic.requestIf (s.ppu.stat.getLsbD 6) 1 }
  else { s with ppu := { s.ppu with ly := v, stat := s.ppu.stat &&& 0xFB } }

/-- `FrameComplete()` (61_ppu.md R505): FB is published and counted. -/
def State.frameComplete (s : State) : State :=
  { s with ppu := { s.ppu with frameOut := s.ppu.fb, frames := s.ppu.frames + 1 } }

/-- `mode_clock <- mode_clock - n`: the excess counts towards the next mode (61_ppu.md R477, D11). -/
def State.spendClock (s : State) (n : Nat) : State :=
  { s with ppu := { s.ppu with modeClock := s.ppu.modeClock - n } }

/-- The cycles of a mode: 204, 456 a line, 80, 172 (61_ppu.md R461). -/
def modeLength (m : BitVec 2) : Nat :=
  match m.toNat with
  | 0 => 204
  | 1 => 456
  | 2 => 80
  | _ => 172

/-- What happens when the current mode's time is up (61_ppu.md R470 to R475). -/
def State.leaveMode (s : State) : State :=
  match s.ppu.mode.toNat with
  | 0 =>
    let t := s.setLy (s.ppu.ly + 1)
    t.enterMode (if t.ppu.ly = 144 then 1 else 2)
  | 1 =>
    if s.ppu.ly = 153 then (s.setLy 0).frameComplete.enterMode 2 else s.setLy (s.ppu.ly + 1)
  | 2 => s.enterMode 3
  | _ => State.enterMode { s with ppu := { s.ppu with fb := s.ppu.renderScanline s.ppu.ly.toNat } } 0

/-- The loop of `PpuStep` (61_ppu.md R470): as long as the current mode's time is up, it is spent and the mode left. -/
def State.ppuLoop : Nat → State → State
  | 0, s => s
  | n + 1, s =>
    if modeLength s.ppu.mode ≤ s.ppu.modeClock then
      State.ppuLoop n (s.spendClock (modeLength s.ppu.mode)).leaveMode
    else s

/-- `PpuStep(c)` (61_ppu.md R470). Every turn of the loop spends at least 80 cycles, so mode_clock / 80 turns are
enough for it to leave by its own test (R477, Log 14). -/
def State.ppuStep (s : State) (c : Nat) : State :=
  let t : State := { s with ppu := { s.ppu with modeClock := s.ppu.modeClock + c } }
  State.ppuLoop (t.ppu.modeClock / 80) t

end Sys2Proof.Machine
end

