-- ==== Sys2Proof/Machine/Timer.lean ====
section
/-!
DEFINITION. Machine/Timer.lean: the timer (60_exceptions.md R430 to R437): clock select, the increment with its
delayed reload, the DIV write and the tick.
-/

namespace Sys2Proof.Machine

/-- `SelBit(TAC) <- [9, 3, 5, 7][TAC & 3]` (60_exceptions.md R431). -/
def selBit (tac : Byte) : Nat :=
  match (tac &&& 3).toNat with
  | 0 => 9
  | 1 => 3
  | 2 => 5
  | _ => 7

/-- TAC bit 2 enables counting (60_exceptions.md R431). -/
def Timer.enabled (t : Timer) : Bool := t.tac.getLsbD 2

/-- `TimaInc()` (60_exceptions.md R434): an overflow leaves 0 and arms the 4-cycle reload delay. -/
def Timer.timaInc (t : Timer) : Timer :=
  if t.tima = 0xFF then { t with tima := 0x00, reloadDelay := 4 } else { t with tima := t.tima + 1 }

/-- A write to DIV, any value (60_exceptions.md R435). -/
def Timer.writeDiv (t : Timer) : Timer :=
  let t' := if t.enabled && t.sysctr.getLsbD (selBit t.tac) then t.timaInc else t
  { t' with sysctr := 0 }

/-- A read of DIV: `sysctr[15:8]` (10_state.md R33). -/
def Timer.div (t : Timer) : Byte := t.sysctr.hi

/-- The pending reload of a tick of `c` cycles (60_exceptions.md R433): the delay is lowered by `c`, not below 0;
when it reaches 0, TIMA is loaded from TMA and the second component says that the interrupt is requested. -/
def Timer.reload (t : Timer) (c : Nat) : Timer × Bool :=
  if t.reloadDelay = 0 then (t, false)
  else if t.reloadDelay - c = 0 then ({ t with reloadDelay := 0, tima := t.tma }, true)
  else ({ t with reloadDelay := t.reloadDelay - c }, false)

/-- The edge test of a tick (60_exceptions.md R432, R434): the selected bit of the counter was 1 before the tick
and is 0 after it. -/
def Timer.edge (t : Timer) (old : Word) : Timer :=
  if t.enabled && old.getLsbD (selBit t.tac) && !t.sysctr.getLsbD (selBit t.tac) then t.timaInc else t

/-- `TimerTick(c)` (60_exceptions.md R432): counter, then pending reload, then edge. -/
def State.timerTick (s : State) (c : Nat) : State :=
  let counted : Timer := { s.timer with sysctr := s.timer.sysctr + BitVec.ofNat 16 c }
  let reloaded := counted.reload c
  let s' : State := if reloaded.2 then s.request 2 else s
  { s' with timer := reloaded.1.edge s.timer.sysctr }

end Sys2Proof.Machine
end

