-- ==== Sys2Proof/Machine/Bus.lean ====
section
/-!
DEFINITION. Machine/Bus.lean: the address decode of 20_memory.md R66 and the two operations every access of the
machine goes through, `BusRead` and `BusWrite` (R60, R61), with OAM DMA (R90).
-/

namespace Sys2Proof.Machine

/-- The I/O registers that have an address of their own (20_memory.md R66, 10_state.md R34). -/
inductive IoReg where
  | joyp | sb | sc | div | tima | tma | tac | iflag
  | lcdc | stat | scy | scx | ly | lyc | dma | bgp | obp0 | obp1 | wy | wx
  | bootOff | ie
deriving DecidableEq, Repr

/-- What stands behind a bus address, with the index inside its block. -/
inductive Target where
  /-- the cartridge's ROM window, 0x0000 to 0x7FFF -/
  | rom (a : Nat)
  /-- 0x8000 to 0x9FFF -/
  | vram (i : Nat)
  /-- the cartridge's external window, 0xA000 to 0xBFFF -/
  | ext (i : Nat)
  /-- 0xC000 to 0xDFFF, and the echo 0xE000 to 0xFDFF of its first 0x1E00 bytes (R77) -/
  | wram (i : Nat)
  /-- 0xFE00 to 0xFE9F -/
  | oam (i : Nat)
  /-- 0xFF80 to 0xFFFE -/
  | hram (i : Nat)
  /-- a register in 0xFF00 to 0xFF7F, or IE at 0xFFFF -/
  | io (r : IoReg)
  /-- unusable or unmapped: reads 0xFF, writes discarded (R79, R80) -/
  | unmapped
deriving DecidableEq, Repr

/-- The register at offset `k` of 0xFF00 to 0xFF7F; none where the address is unmapped (20_memory.md R66, R80;
10_state.md R33, R34). -/
def ioAt (k : Nat) : Option IoReg :=
  match k with
  | 0x00 => some .joyp
  | 0x01 => some .sb
  | 0x02 => some .sc
  | 0x04 => some .div
  | 0x05 => some .tima
  | 0x06 => some .tma
  | 0x07 => some .tac
  | 0x0F => some .iflag
  | 0x40 => some .lcdc
  | 0x41 => some .stat
  | 0x42 => some .scy
  | 0x43 => some .scx
  | 0x44 => some .ly
  | 0x45 => some .lyc
  | 0x46 => some .dma
  | 0x47 => some .bgp
  | 0x48 => some .obp0
  | 0x49 => some .obp1
  | 0x4A => some .wy
  | 0x4B => some .wx
  | 0x50 => some .bootOff
  | _ => none

/-- The address decode, first matching row (20_memory.md R66). The boot overlay, a matter of reads only, is laid
over it by `busRead` (R70). -/
def target (a : Word) : Target :=
  let n := a.toNat
  if n < 0x8000 then .rom n
  else if n < 0xA000 then .vram (n - 0x8000)
  else if n < 0xC000 then .ext (n - 0xA000)
  else if n < 0xE000 then .wram (n - 0xC000)
  else if n < 0xFE00 then .wram (n - 0xE000)
  else if n < 0xFEA0 then .oam (n - 0xFE00)
  else if n < 0xFF00 then .unmapped
  else if n < 0xFF80 then
    match ioAt (n - 0xFF00) with
    | some r => .io r
    | none => .unmapped
  else if n < 0xFFFF then .hram (n - 0xFF80)
  else .io .ie

/-- `JoypadRead(JOYP_SEL)` (20_memory.md R82). -/
def joypadByte (j : Config.JoypadRead) (sel : BitVec 2) : Byte :=
  match sel.toNat with
  | 0 => j.sel0
  | 1 => j.sel1
  | 2 => j.sel2
  | _ => j.sel3

/-- A read of an I/O register (20_memory.md R82 to R88). -/
def State.ioRead (s : State) : IoReg → Byte
  | .joyp => joypadByte s.env.joypad s.bus.joypSel
  | .sb => s.bus.sb
  | .sc => s.bus.sc
  | .div => s.timer.div
  | .tima => s.timer.tima
  | .tma => s.timer.tma
  | .tac => s.timer.tac
  | .iflag => s.ic.iflag
  | .lcdc => s.ppu.lcdc
  | .stat => s.ppu.stat
  | .scy => s.ppu.scy
  | .scx => s.ppu.scx
  | .ly => s.ppu.ly
  | .lyc => s.ppu.lyc
  | .dma => s.ppu.dma
  | .bgp => s.ppu.bgp
  | .obp0 => s.ppu.obp0
  | .obp1 => s.ppu.obp1
  | .wy => s.ppu.wy
  | .wx => s.ppu.wx
  | .bootOff => 0xFF
  | .ie => s.ic.ie

/-- A read of what the address decode selects. -/
def State.readTarget (s : State) : Target → Byte
  | .rom a => s.cart.readRom a
  | .vram i => Cells.read s.ppu.vram i
  | .ext i => s.cart.readExt i
  | .wram i => Cells.read s.bus.wram i
  | .oam i => Cells.read s.ppu.oam i
  | .hram i => Cells.read s.bus.hram i
  | .io r => s.ioRead r
  | .unmapped => 0xFF

/-- Whether the boot overlay covers an address (20_memory.md R70). -/
def State.bootCovers (s : State) (a : Word) : Bool := s.bus.bootEnabled && decide (a.toNat < 0x100)

/-- `BusRead(addr)`: total, without side effects (20_memory.md R61, R70, R93). -/
def State.busRead (s : State) (a : Word) : Byte :=
  if s.bootCovers a then Cells.read s.env.bootImage a.toNat else s.readTarget (target a)

/-- The OAM byte `i` replaced. -/
def State.writeOam (s : State) (i : Nat) (v : Byte) : State :=
  { s with ppu := { s.ppu with oam := Cells.write s.ppu.oam i v } }

/-- One byte of the OAM DMA copy: `BusWrite(0xFE00 + i, BusRead((v x 0x100 + i) mod 65536))`. For `i` below 0xA0 the
write is the OAM row of the address decode (20_memory.md R66, R90, Log 26). -/
def State.dmaByte (v : Byte) (s : State) (i : Nat) : State :=
  s.writeOam i (s.busRead (BitVec.ofNat 16 (v.toNat * 0x100 + i)))

/-- OAM DMA from page `v`, in ascending order, inside the write that starts it (20_memory.md R90). -/
def State.oamDma (s : State) (v : Byte) : State := (List.range 0xA0).foldl (State.dmaByte v) s

/-- A write to SC: stored, and SB goes to the debug sink when the value is 0x81 (20_memory.md R84). -/
def Bus.writeSc (b : Bus) (v : Byte) : Bus :=
  { b with sc := v, serialSink := if v = 0x81 then b.serialSink ++ [b.sb] else b.serialSink }

/-- A write to the boot-ROM-disable latch (20_memory.md R88). -/
def Bus.writeBootOff (b : Bus) (v : Byte) : Bus := if v = 0 then b else { b with bootEnabled := false }

/-- A write to an I/O register (20_memory.md R82 to R88, R90). -/
def State.ioWrite (s : State) (r : IoReg) (v : Byte) : State :=
  match r with
  | .joyp => { s with bus := { s.bus with joypSel := v.extractLsb' 4 2 } }
  | .sb => { s with bus := { s.bus with sb := v } }
  | .sc => { s with bus := s.bus.writeSc v }
  | .div => { s with timer := s.timer.writeDiv }
  | .tima => { s with timer := { s.timer with tima := v } }
  | .tma => { s with timer := { s.timer with tma := v } }
  | .tac => { s with timer := { s.timer with tac := v } }
  | .iflag => { s with ic := { s.ic with iflag := v } }
  | .lcdc => { s with ppu := { s.ppu with lcdc := v } }
  | .stat => { s with ppu := s.ppu.writeStat v }
  | .scy => { s with ppu := { s.ppu with scy := v } }
  | .scx => { s with ppu := { s.ppu with scx := v } }
  | .ly => s
  | .lyc => { s with ppu := { s.ppu with lyc := v } }
  | .dma => State.oamDma { s with ppu := { s.ppu with dma := v } } v
  | .bgp => { s with ppu := { s.ppu with bgp := v } }
  | .obp0 => { s with ppu := { s.ppu with obp0 := v } }
  | .obp1 => { s with ppu := { s.ppu with obp1 := v } }
  | .wy => { s with ppu := { s.ppu with wy := v } }
  | .wx => { s with ppu := { s.ppu with wx := v } }
  | .bootOff => { s with bus := s.bus.writeBootOff v }
  | .ie => { s with ic := { s.ic with ie := v } }

/-- A write to what the address decode selects. -/
def State.writeTarget (s : State) (v : Byte) : Target → State
  | .rom a => { s with cart := s.cart.writeRom s.env.rtcNow a v }
  | .vram i => { s with ppu := { s.ppu with vram := Cells.write s.ppu.vram i v } }
  | .ext i => { s with cart := s.cart.writeExt s.env.rtcNow i v }
  | .wram i => { s with bus := { s.bus with wram := Cells.write s.bus.wram i v } }
  | .oam i => s.writeOam i v
  | .hram i => { s with bus := { s.bus with hram := Cells.write s.bus.hram i v } }
  | .io r => s.ioWrite r v
  | .unmapped => s

/-- `BusWrite(addr, v)`: total; every side effect has happened when it returns (20_memory.md R61, R94, R96). The boot
overlay does not touch writes (R70). -/
def State.busWrite (s : State) (a : Word) (v : Byte) : State := s.writeTarget v (target a)

/-- `MemRead(addr, 2)` (20_memory.md R62). -/
def State.busRead16 (s : State) (a : Word) : Word := Word.ofBytes (s.busRead (a + 1)) (s.busRead a)

/-- `MemWrite(addr, 2, v)`: the low byte first (20_memory.md R62, D5). -/
def State.busWrite16 (s : State) (a : Word) (v : Word) : State := (s.busWrite a v.lo).busWrite (a + 1) v.hi

end Sys2Proof.Machine
end

