-- ==== Sys2Proof/Machine/Flags.lean ====
section
/-!
DEFINITION. Machine/Flags.lean: every result and flag computation the spec gives, on values: 8-bit add, subtract
and logic (42_alu8.md R250 to R252), increment and decrement (R277, R279), DAA (R281), the 16-bit adds
(43_alu16.md R300, R303, 41_load16.md R233) and the rotates and shifts (44_rotate_bit.md R310 to R314).
-/

namespace Sys2Proof.Machine

/-- F as a byte: Z, N, H, C in bits 7 to 4 and bits 3 to 0 always 0 (10_state.md R23). -/
def Flags.toByte (f : Flags) : Byte :=
  BitVec.ofBool f.z ++ BitVec.ofBool f.n ++ BitVec.ofBool f.h ++ BitVec.ofBool f.c ++ (0 : BitVec 4)

/-- F loaded from a byte: masked to the top nibble (10_state.md R22, 41_load16.md R236). -/
def Flags.ofByte (v : Byte) : Flags :=
  { z := v.getLsbD 7, n := v.getLsbD 6, h := v.getLsbD 5, c := v.getLsbD 4 }

/-- The low nibble of a byte as a number, `v & 0x0F`. -/
def lowNibble (v : Byte) : Nat := (v &&& 0x0F).toNat

/-- `Add8(a, b, c)` (42_alu8.md R250). -/
def add8 (a b : Byte) (c : Bool) : Byte × Flags :=
  let s := a.toNat + b.toNat + c.toNat
  let r := BitVec.ofNat 8 s
  (r, { z := r == 0, n := false
        h := decide (lowNibble a + lowNibble b + c.toNat > 0x0F), c := decide (s > 0xFF) })

/-- `Sub8(a, b, c)` (42_alu8.md R251). -/
def sub8 (a b : Byte) (c : Bool) : Byte × Flags :=
  let d : Int := (a.toNat : Int) - b.toNat - c.toNat
  let r := BitVec.ofInt 8 d
  (r, { z := r == 0, n := true
        h := decide ((lowNibble a : Int) - lowNibble b - c.toNat < 0), c := decide (d < 0) })

/-- The flags of `Logic(op, a, b)`: H is 1 for AND and 0 for XOR and OR (42_alu8.md R252). -/
def logicFlags (r : Byte) (half : Bool) : Flags := { z := r == 0, n := false, h := half, c := false }

/-- The eight accumulator operations of the table `alu` (30_encoding.md R165). -/
inductive AluOp where
  | add | adc | sub | sbc | and | xor | or | cp
deriving DecidableEq, Repr

/-- The new A and F of an accumulator operation: A, the operand and the old flags to the result and the new flags; CP
discards the result (42_alu8.md R253 to R276). -/
def aluResult (op : AluOp) (a x : Byte) (f : Flags) : Byte × Flags :=
  match op with
  | .add => add8 a x false
  | .adc => add8 a x f.c
  | .sub => sub8 a x false
  | .sbc => sub8 a x f.c
  | .and => (a &&& x, logicFlags (a &&& x) true)
  | .xor => (a ^^^ x, logicFlags (a ^^^ x) false)
  | .or => (a ||| x, logicFlags (a ||| x) false)
  | .cp => (a, (sub8 a x false).2)

/-- INC: the result and the flags, C kept (42_alu8.md R277). -/
def inc8 (v : Byte) (f : Flags) : Byte × Flags :=
  (v + 1, { z := v + 1 == 0, n := false, h := v &&& 0x0F == 0x0F, c := f.c })

/-- DEC: the result and the flags, C kept (42_alu8.md R279). -/
def dec8 (v : Byte) (f : Flags) : Byte × Flags :=
  (v - 1, { z := v - 1 == 0, n := true, h := v &&& 0x0F == 0x00, c := f.c })

/-- DAA: the new A and F (42_alu8.md R281). -/
def daa (a : Byte) (f : Flags) : Byte × Flags :=
  if f.n then
    let off := (if f.h then (0x06 : Byte) else 0) ||| (if f.c then 0x60 else 0)
    (a - off, { z := a - off == 0, n := f.n, h := false, c := f.c })
  else
    let low := f.h || decide (lowNibble a > 0x09)
    let high := f.c || decide (a.toNat > 0x99)
    let off := (if low then (0x06 : Byte) else 0) ||| (if high then 0x60 else 0)
    (a + off, { z := a + off == 0, n := f.n, h := false, c := high })

/-- `ADD HL,rr`: the sum and the flags; Z is kept (43_alu16.md R300). -/
def addWord (a b : Word) (f : Flags) : Word × Flags :=
  (a + b,
    { z := f.z, n := false
      h := decide ((a &&& 0x0FFF).toNat + (b &&& 0x0FFF).toNat > 0x0FFF)
      c := decide (a.toNat + b.toNat > 0xFFFF) })

/-- `SP + sext_8(e)` and its flags, which come from the unsigned addition of the low byte of SP and the raw
displacement byte (41_load16.md R233, 43_alu16.md R303). -/
def addSpDisp (sp : Word) (e : Byte) : Word × Flags :=
  (sp + e.signExtend 16,
    { z := false, n := false
      h := decide ((sp &&& 0x0F).toNat + lowNibble e > 0x0F)
      c := decide ((sp &&& 0xFF).toNat + e.toNat > 0xFF) })

/-- The eight operations of the table `rot` (30_encoding.md R165). -/
inductive RotOp where
  | rlc | rrc | rl | rr | sla | sra | swap | srl
deriving DecidableEq, Repr

/-- `Rot(y, v)` with the old carry: the result and the carry-out (44_rotate_bit.md R314). -/
def rotResult (op : RotOp) (v : Byte) (cy : Bool) : Byte × Bool :=
  let bit7 := v.getLsbD 7
  let bit0 := v.getLsbD 0
  let inLow (b : Bool) : Byte := if b then 0x01 else 0
  let inHigh (b : Bool) : Byte := if b then 0x80 else 0
  match op with
  | .rlc => ((v <<< 1) ||| inLow bit7, bit7)
  | .rrc => ((v >>> 1) ||| inHigh bit0, bit0)
  | .rl => ((v <<< 1) ||| inLow cy, bit7)
  | .rr => ((v >>> 1) ||| inHigh cy, bit0)
  | .sla => (v <<< 1, bit7)
  | .sra => ((v >>> 1) ||| (v &&& 0x80), bit0)
  | .swap => ((v <<< 4) ||| (v >>> 4), false)
  | .srl => (v >>> 1, bit0)

/-- The flags of a prefixed rotate or shift: Z from the result, N and H clear (44_rotate_bit.md R314). -/
def rotFlags (r : Byte) (c : Bool) : Flags := { z := r == 0, n := false, h := false, c := c }

/-- The flags of an accumulator rotate: Z, N and H clear (44_rotate_bit.md R310 to R313). -/
def accRotFlags (c : Bool) : Flags := { z := false, n := false, h := false, c := c }

/-- The flags of BIT: Z is the complement of the tested bit, N clear, H set, C kept (44_rotate_bit.md R331). -/
def bitFlags (v : Byte) (b : Nat) (f : Flags) : Flags := { z := !v.getLsbD b, n := false, h := true, c := f.c }

/-- `v & ~(1 << b)` (44_rotate_bit.md R333). -/
def resetBit (v : Byte) (b : Nat) : Byte := v &&& ~~~((1 : Byte) <<< b)

/-- `v | (1 << b)` (44_rotate_bit.md R335). -/
def setBit (v : Byte) (b : Nat) : Byte := v ||| ((1 : Byte) <<< b)

end Sys2Proof.Machine
end

