-- ==== Sys2Proof/Machine/Operands.lean ====
section
/-!
DEFINITION. Machine/Operands.lean: the operand forms of 30_encoding.md R164 and R165: registers, the 16-bit views
(10_state.md R22), the byte at HL, the pages of LDH, and the conditions (45_control.md R350).
-/

namespace Sys2Proof.Machine

/-- An 8-bit register of the table `r8` (30_encoding.md R165); `(HL)` is a form of its own here. -/
inductive Reg8 where
  | b | c | d | e | h | l | a
deriving DecidableEq, Repr

/-- A register pair of the table `r16` (30_encoding.md R165). -/
inductive Pair where
  | bc | de | hl | sp
deriving DecidableEq, Repr

/-- A register pair of the table `r16stk` (30_encoding.md R165). -/
inductive StackPair where
  | bc | de | hl | af
deriving DecidableEq, Repr

/-- A condition of the table `cc` (30_encoding.md R165). -/
inductive Cond where
  | nz | z | nc | c
deriving DecidableEq, Repr

/-- `BC = {B, C}`. -/
def Cpu.bc (k : Cpu) : Word := Word.ofBytes k.b k.c

/-- `DE = {D, E}`. -/
def Cpu.de (k : Cpu) : Word := Word.ofBytes k.d k.e

/-- `HL = {H, L}`. -/
def Cpu.hl (k : Cpu) : Word := Word.ofBytes k.h k.l

/-- `AF = {A, F}`. -/
def Cpu.af (k : Cpu) : Word := Word.ofBytes k.a k.f.toByte

/-- A write to a 16-bit view writes both registers (10_state.md R22). -/
def Cpu.setBc (k : Cpu) (v : Word) : Cpu := { k with b := v.hi, c := v.lo }

/-- A write to DE. -/
def Cpu.setDe (k : Cpu) (v : Word) : Cpu := { k with d := v.hi, e := v.lo }

/-- A write to HL. -/
def Cpu.setHl (k : Cpu) (v : Word) : Cpu := { k with h := v.hi, l := v.lo }

/-- A write to AF masks the low byte to its top nibble (10_state.md R22). -/
def Cpu.setAf (k : Cpu) (v : Word) : Cpu := { k with a := v.hi, f := Flags.ofByte v.lo }

/-- `r8[i]`. -/
def Cpu.reg (k : Cpu) : Reg8 → Byte
  | .b => k.b
  | .c => k.c
  | .d => k.d
  | .e => k.e
  | .h => k.h
  | .l => k.l
  | .a => k.a

/-- `r8[i] <- v`. -/
def Cpu.setReg (k : Cpu) (r : Reg8) (v : Byte) : Cpu :=
  match r with
  | .b => { k with b := v }
  | .c => { k with c := v }
  | .d => { k with d := v }
  | .e => { k with e := v }
  | .h => { k with h := v }
  | .l => { k with l := v }
  | .a => { k with a := v }

/-- `r16[i]`. -/
def Cpu.pair (k : Cpu) : Pair → Word
  | .bc => k.bc
  | .de => k.de
  | .hl => k.hl
  | .sp => k.sp

/-- `r16[i] <- v`. -/
def Cpu.setPair (k : Cpu) (p : Pair) (v : Word) : Cpu :=
  match p with
  | .bc => k.setBc v
  | .de => k.setDe v
  | .hl => k.setHl v
  | .sp => { k with sp := v }

/-- `r16stk[i]`. -/
def Cpu.stackPair (k : Cpu) : StackPair → Word
  | .bc => k.bc
  | .de => k.de
  | .hl => k.hl
  | .af => k.af

/-- `r16stk[i] <- v`. -/
def Cpu.setStackPair (k : Cpu) (p : StackPair) (v : Word) : Cpu :=
  match p with
  | .bc => k.setBc v
  | .de => k.setDe v
  | .hl => k.setHl v
  | .af => k.setAf v

/-- `Cond(cc)` (45_control.md R350). -/
def Flags.holds (f : Flags) : Cond → Bool
  | .nz => !f.z
  | .z => f.z
  | .nc => !f.c
  | .c => f.c

/-- The address of an `(a8)` or `(C)` operand, `0xFF00 + n` (30_encoding.md R163, R164). -/
def highPage (n : Byte) : Word := 0xFF00 + n.setWidth 16

/-- A read of the operand `(HL)` (30_encoding.md R164). -/
def State.readHl (s : State) : Byte := s.busRead s.cpu.hl

/-- A write of the operand `(HL)`. -/
def State.writeHl (s : State) (v : Byte) : State := s.busWrite s.cpu.hl v

/-- A register write on the machine. -/
def State.setReg (s : State) (r : Reg8) (v : Byte) : State := { s with cpu := s.cpu.setReg r v }

/-- A register-pair write on the machine. -/
def State.setPair (s : State) (p : Pair) (v : Word) : State := { s with cpu := s.cpu.setPair p v }

/-- A write of the flags. -/
def State.setFlags (s : State) (f : Flags) : State := { s with cpu := { s.cpu with f := f } }

/-- A write of A and the flags. -/
def State.setAccFlags (s : State) (r : Byte × Flags) : State := { s with cpu := { s.cpu with a := r.1, f := r.2 } }

/-- A write of PC. -/
def State.setPc (s : State) (v : Word) : State := { s with cpu := { s.cpu with pc := v } }

/-- A write of SP. -/
def State.setSp (s : State) (v : Word) : State := { s with cpu := { s.cpu with sp := v } }

end Sys2Proof.Machine
end

