-- ==== Sys2Proof/Machine/Ops.lean ====
section
/-!
DEFINITION. Machine/Ops.lean: the operations the meanings share: the end of an instruction with its cycle count,
the stack (00_scope.md R15), taking an interrupt (60_exceptions.md R423), the invalid-opcode exception (R401) and the
return from an interrupt handler (45_control.md R360).
-/

namespace Sys2Proof.Machine

/-- `cycles <- n`: the instruction ends and the CPU step returns `n` (00_scope.md R14). -/
def finish (n : Nat) (s : State) : Result := .next { s with cycles := some n }

/-- `Push16(v)`: SP is lowered by 2 first, the high byte is written first and lies higher (00_scope.md R15). -/
def State.push16 (s : State) (v : Word) : State :=
  let t := s.setSp (s.cpu.sp - 2)
  (t.busWrite (t.cpu.sp + 1) v.hi).busWrite t.cpu.sp v.lo

/-- The word on top of the stack: low byte at SP, high byte at SP + 1 (00_scope.md R15). -/
def State.stackTop (s : State) : Word := s.busRead16 s.cpu.sp

/-- `Pop16()` without its result, which is `stackTop`: SP raised by 2 (00_scope.md R15). -/
def State.dropTop (s : State) : State := s.setSp (s.cpu.sp + 2)

/-- Taking the interrupt of source `n` (60_exceptions.md R423): PC pushed, IME and the EI delay cleared, the request
cleared, PC at the vector. halt_bug is left as it is (92_eei_decisions.md D8). The push may itself write IF. -/
def State.takeInterrupt (s : State) (n : Nat) : State :=
  let t := s.push16 s.cpu.pc
  { t with
    cpu := { t.cpu with ime := false, imeDelay := 0, pc := vector n }
    ic := t.ic.clear n }

/-- The return from an interrupt handler: PC popped, IME set at once, a pending EI delay cancelled (45_control.md R360). -/
def State.returnFromInterrupt (s : State) : State :=
  let t := s.dropTop.setPc s.stackTop
  { t with cpu := { t.cpu with ime := true, imeDelay := 0 } }

/-- `raise IllegalOpcode(op)` (60_exceptions.md R401, 46_system.md R386): the machine becomes FATAL; no cycle count
is returned; nothing else changes. The step after it has no next state (Log 9). -/
def raiseIllegal (op : Byte) (s : State) : Result :=
  .next { s with cpu := { s.cpu with fatal := true, illegalOp := some op }, cycles := none }

end Sys2Proof.Machine
end

