-- ==== Sys2Proof/Machine/Alu16.lean ====
section
/-!
DEFINITION. Machine/Alu16.lean: the 16-bit arithmetic instructions (43_alu16.md R300 to R303).
-/

namespace Sys2Proof.Machine

/-- `ADD HL,rr` (R300). -/
def addHl (p : Pair) (s : State) : Result :=
  finish 8 ((s.setPair .hl (addWord s.cpu.hl (s.cpu.pair p) s.cpu.f).1).setFlags
    (addWord s.cpu.hl (s.cpu.pair p) s.cpu.f).2)

/-- `INC rr`: no flag changes (R301). -/
def incPair (p : Pair) (s : State) : Result := finish 8 (s.setPair p (s.cpu.pair p + 1))

/-- `DEC rr`: no flag changes (R302). -/
def decPair (p : Pair) (s : State) : Result := finish 8 (s.setPair p (s.cpu.pair p - 1))

/-- `ADD SP,e8` (R303). -/
def addSp (e : Byte) (s : State) : Result :=
  finish 16 ((s.setSp (addSpDisp s.cpu.sp e).1).setFlags (addSpDisp s.cpu.sp e).2)

/-! ### One meaning per instruction -/

/-- `INC BC` (R301) -/
def execIncBc (s : State) : Result := incPair .bc s

/-- `ADD HL,BC` (R300) -/
def execAddHlBc (s : State) : Result := addHl .bc s

/-- `DEC BC` (R302) -/
def execDecBc (s : State) : Result := decPair .bc s

/-- `INC DE` (R301) -/
def execIncDe (s : State) : Result := incPair .de s

/-- `ADD HL,DE` (R300) -/
def execAddHlDe (s : State) : Result := addHl .de s

/-- `DEC DE` (R302) -/
def execDecDe (s : State) : Result := decPair .de s

/-- `INC HL` (R301) -/
def execIncHl (s : State) : Result := incPair .hl s

/-- `ADD HL,HL` (R300) -/
def execAddHlHl (s : State) : Result := addHl .hl s

/-- `DEC HL` (R302) -/
def execDecHl (s : State) : Result := decPair .hl s

/-- `INC SP` (R301) -/
def execIncSp (s : State) : Result := incPair .sp s

/-- `ADD HL,SP` (R300) -/
def execAddHlSp (s : State) : Result := addHl .sp s

/-- `DEC SP` (R302) -/
def execDecSp (s : State) : Result := decPair .sp s

/-- `ADD SP,e8` (R303) -/
def execAddSpE8 (e8 : Byte) (s : State) : Result := addSp e8 s

end Sys2Proof.Machine
end

