-- ==== Sys2Proof/Machine/Alu8.lean ====
section
/-!
DEFINITION. Machine/Alu8.lean: the 8-bit arithmetic and logic instructions (42_alu8.md R253 to R284).
-/

namespace Sys2Proof.Machine

/-- An accumulator operation on a register (R253, R256, R259, R262, R265, R268, R271, R274). -/
def aluReg (op : AluOp) (r : Reg8) (s : State) : Result :=
  finish 4 (s.setAccFlags (aluResult op s.cpu.a (s.cpu.reg r) s.cpu.f))

/-- An accumulator operation on the byte at HL (R254, R257, R260, R263, R266, R269, R272, R275). -/
def aluHl (op : AluOp) (s : State) : Result := finish 8 (s.setAccFlags (aluResult op s.cpu.a s.readHl s.cpu.f))

/-- An accumulator operation on an immediate (R255, R258, R261, R264, R267, R270, R273, R276). -/
def aluImm (op : AluOp) (v : Byte) (s : State) : Result := finish 8 (s.setAccFlags (aluResult op s.cpu.a v s.cpu.f))

/-- `INC r` (R277). -/
def incReg (r : Reg8) (s : State) : Result :=
  finish 4 ((s.setReg r (inc8 (s.cpu.reg r) s.cpu.f).1).setFlags (inc8 (s.cpu.reg r) s.cpu.f).2)

/-- `DEC r` (R279). -/
def decReg (r : Reg8) (s : State) : Result :=
  finish 4 ((s.setReg r (dec8 (s.cpu.reg r) s.cpu.f).1).setFlags (dec8 (s.cpu.reg r) s.cpu.f).2)

/-- `INC (HL)`: one read, then one write of the same address (R278). -/
def incHl (s : State) : Result :=
  finish 12 ((s.writeHl (inc8 s.readHl s.cpu.f).1).setFlags (inc8 s.readHl s.cpu.f).2)

/-- `DEC (HL)` (R280). -/
def decHl (s : State) : Result :=
  finish 12 ((s.writeHl (dec8 s.readHl s.cpu.f).1).setFlags (dec8 s.readHl s.cpu.f).2)

/-- `DAA` (R281). -/
def decimalAdjust (s : State) : Result := finish 4 (s.setAccFlags (daa s.cpu.a s.cpu.f))

/-- `CPL`: N and H set, Z and C kept (R282). -/
def complementA (s : State) : Result :=
  finish 4 (s.setAccFlags (s.cpu.a ^^^ 0xFF, { s.cpu.f with n := true, h := true }))

/-- `SCF`: C set, N and H cleared, Z kept (R283). -/
def setCarry (s : State) : Result := finish 4 (s.setFlags { s.cpu.f with n := false, h := false, c := true })

/-- `CCF`: C complemented, N and H cleared, Z kept (R284). -/
def complementCarry (s : State) : Result :=
  finish 4 (s.setFlags { s.cpu.f with n := false, h := false, c := !s.cpu.f.c })

/-! ### One meaning per instruction -/

/-- `INC B` (R277) -/
def execIncB (s : State) : Result := incReg .b s

/-- `DEC B` (R279) -/
def execDecB (s : State) : Result := decReg .b s

/-- `INC C` (R277) -/
def execIncC (s : State) : Result := incReg .c s

/-- `DEC C` (R279) -/
def execDecC (s : State) : Result := decReg .c s

/-- `INC D` (R277) -/
def execIncD (s : State) : Result := incReg .d s

/-- `DEC D` (R279) -/
def execDecD (s : State) : Result := decReg .d s

/-- `INC E` (R277) -/
def execIncE (s : State) : Result := incReg .e s

/-- `DEC E` (R279) -/
def execDecE (s : State) : Result := decReg .e s

/-- `INC H` (R277) -/
def execIncH (s : State) : Result := incReg .h s

/-- `DEC H` (R279) -/
def execDecH (s : State) : Result := decReg .h s

/-- `DAA` (R281) -/
def execDaa (s : State) : Result := decimalAdjust s

/-- `INC L` (R277) -/
def execIncL (s : State) : Result := incReg .l s

/-- `DEC L` (R279) -/
def execDecL (s : State) : Result := decReg .l s

/-- `CPL` (R282) -/
def execCpl (s : State) : Result := complementA s

/-- `INC (HL)` (R278) -/
def execIncAtHl (s : State) : Result := incHl s

/-- `DEC (HL)` (R280) -/
def execDecAtHl (s : State) : Result := decHl s

/-- `SCF` (R283) -/
def execScf (s : State) : Result := setCarry s

/-- `INC A` (R277) -/
def execIncA (s : State) : Result := incReg .a s

/-- `DEC A` (R279) -/
def execDecA (s : State) : Result := decReg .a s

/-- `CCF` (R284) -/
def execCcf (s : State) : Result := complementCarry s

/-- `ADD A,B` (R253) -/
def execAddAB (s : State) : Result := aluReg .add .b s

/-- `ADD A,C` (R253) -/
def execAddAC (s : State) : Result := aluReg .add .c s

/-- `ADD A,D` (R253) -/
def execAddAD (s : State) : Result := aluReg .add .d s

/-- `ADD A,E` (R253) -/
def execAddAE (s : State) : Result := aluReg .add .e s

/-- `ADD A,H` (R253) -/
def execAddAH (s : State) : Result := aluReg .add .h s

/-- `ADD A,L` (R253) -/
def execAddAL (s : State) : Result := aluReg .add .l s

/-- `ADD A,(HL)` (R254) -/
def execAddAAtHl (s : State) : Result := aluHl .add s

/-- `ADD A,A` (R253) -/
def execAddAA (s : State) : Result := aluReg .add .a s

/-- `ADC A,B` (R256) -/
def execAdcAB (s : State) : Result := aluReg .adc .b s

/-- `ADC A,C` (R256) -/
def execAdcAC (s : State) : Result := aluReg .adc .c s

/-- `ADC A,D` (R256) -/
def execAdcAD (s : State) : Result := aluReg .adc .d s

/-- `ADC A,E` (R256) -/
def execAdcAE (s : State) : Result := aluReg .adc .e s

/-- `ADC A,H` (R256) -/
def execAdcAH (s : State) : Result := aluReg .adc .h s

/-- `ADC A,L` (R256) -/
def execAdcAL (s : State) : Result := aluReg .adc .l s

/-- `ADC A,(HL)` (R257) -/
def execAdcAAtHl (s : State) : Result := aluHl .adc s

/-- `ADC A,A` (R256) -/
def execAdcAA (s : State) : Result := aluReg .adc .a s

/-- `SUB B` (R259) -/
def execSubB (s : State) : Result := aluReg .sub .b s

/-- `SUB C` (R259) -/
def execSubC (s : State) : Result := aluReg .sub .c s

/-- `SUB D` (R259) -/
def execSubD (s : State) : Result := aluReg .sub .d s

/-- `SUB E` (R259) -/
def execSubE (s : State) : Result := aluReg .sub .e s

/-- `SUB H` (R259) -/
def execSubH (s : State) : Result := aluReg .sub .h s

/-- `SUB L` (R259) -/
def execSubL (s : State) : Result := aluReg .sub .l s

/-- `SUB (HL)` (R260) -/
def execSubAtHl (s : State) : Result := aluHl .sub s

/-- `SUB A` (R259) -/
def execSubA (s : State) : Result := aluReg .sub .a s

/-- `SBC A,B` (R262) -/
def execSbcAB (s : State) : Result := aluReg .sbc .b s

/-- `SBC A,C` (R262) -/
def execSbcAC (s : State) : Result := aluReg .sbc .c s

/-- `SBC A,D` (R262) -/
def execSbcAD (s : State) : Result := aluReg .sbc .d s

/-- `SBC A,E` (R262) -/
def execSbcAE (s : State) : Result := aluReg .sbc .e s

/-- `SBC A,H` (R262) -/
def execSbcAH (s : State) : Result := aluReg .sbc .h s

/-- `SBC A,L` (R262) -/
def execSbcAL (s : State) : Result := aluReg .sbc .l s

/-- `SBC A,(HL)` (R263) -/
def execSbcAAtHl (s : State) : Result := aluHl .sbc s

/-- `SBC A,A` (R262) -/
def execSbcAA (s : State) : Result := aluReg .sbc .a s

/-- `AND B` (R265) -/
def execAndB (s : State) : Result := aluReg .and .b s

/-- `AND C` (R265) -/
def execAndC (s : State) : Result := aluReg .and .c s

/-- `AND D` (R265) -/
def execAndD (s : State) : Result := aluReg .and .d s

/-- `AND E` (R265) -/
def execAndE (s : State) : Result := aluReg .and .e s

/-- `AND H` (R265) -/
def execAndH (s : State) : Result := aluReg .and .h s

/-- `AND L` (R265) -/
def execAndL (s : State) : Result := aluReg .and .l s

/-- `AND (HL)` (R266) -/
def execAndAtHl (s : State) : Result := aluHl .and s

/-- `AND A` (R265) -/
def execAndA (s : State) : Result := aluReg .and .a s

/-- `XOR B` (R268) -/
def execXorB (s : State) : Result := aluReg .xor .b s

/-- `XOR C` (R268) -/
def execXorC (s : State) : Result := aluReg .xor .c s

/-- `XOR D` (R268) -/
def execXorD (s : State) : Result := aluReg .xor .d s

/-- `XOR E` (R268) -/
def execXorE (s : State) : Result := aluReg .xor .e s

/-- `XOR H` (R268) -/
def execXorH (s : State) : Result := aluReg .xor .h s

/-- `XOR L` (R268) -/
def execXorL (s : State) : Result := aluReg .xor .l s

/-- `XOR (HL)` (R269) -/
def execXorAtHl (s : State) : Result := aluHl .xor s

/-- `XOR A` (R268) -/
def execXorA (s : State) : Result := aluReg .xor .a s

/-- `OR B` (R271) -/
def execOrB (s : State) : Result := aluReg .or .b s

/-- `OR C` (R271) -/
def execOrC (s : State) : Result := aluReg .or .c s

/-- `OR D` (R271) -/
def execOrD (s : State) : Result := aluReg .or .d s

/-- `OR E` (R271) -/
def execOrE (s : State) : Result := aluReg .or .e s

/-- `OR H` (R271) -/
def execOrH (s : State) : Result := aluReg .or .h s

/-- `OR L` (R271) -/
def execOrL (s : State) : Result := aluReg .or .l s

/-- `OR (HL)` (R272) -/
def execOrAtHl (s : State) : Result := aluHl .or s

/-- `OR A` (R271) -/
def execOrA (s : State) : Result := aluReg .or .a s

/-- `CP B` (R274) -/
def execCpB (s : State) : Result := aluReg .cp .b s

/-- `CP C` (R274) -/
def execCpC (s : State) : Result := aluReg .cp .c s

/-- `CP D` (R274) -/
def execCpD (s : State) : Result := aluReg .cp .d s

/-- `CP E` (R274) -/
def execCpE (s : State) : Result := aluReg .cp .e s

/-- `CP H` (R274) -/
def execCpH (s : State) : Result := aluReg .cp .h s

/-- `CP L` (R274) -/
def execCpL (s : State) : Result := aluReg .cp .l s

/-- `CP (HL)` (R275) -/
def execCpAtHl (s : State) : Result := aluHl .cp s

/-- `CP A` (R274) -/
def execCpA (s : State) : Result := aluReg .cp .a s

/-- `ADD A,d8` (R255) -/
def execAddAD8 (d8 : Byte) (s : State) : Result := aluImm .add d8 s

/-- `ADC A,d8` (R258) -/
def execAdcAD8 (d8 : Byte) (s : State) : Result := aluImm .adc d8 s

/-- `SUB d8` (R261) -/
def execSubD8 (d8 : Byte) (s : State) : Result := aluImm .sub d8 s

/-- `SBC A,d8` (R264) -/
def execSbcAD8 (d8 : Byte) (s : State) : Result := aluImm .sbc d8 s

/-- `AND d8` (R267) -/
def execAndD8 (d8 : Byte) (s : State) : Result := aluImm .and d8 s

/-- `XOR d8` (R270) -/
def execXorD8 (d8 : Byte) (s : State) : Result := aluImm .xor d8 s

/-- `OR d8` (R273) -/
def execOrD8 (d8 : Byte) (s : State) : Result := aluImm .or d8 s

/-- `CP d8` (R276) -/
def execCpD8 (d8 : Byte) (s : State) : Result := aluImm .cp d8 s

end Sys2Proof.Machine
end

