-- ==== Sys2Proof/Machine/Control.lean ====
section
/-!
DEFINITION. Machine/Control.lean: jumps, calls, returns and restarts (45_control.md R350 to R361). PC is already the
address of the next sequential instruction when a meaning here starts (00_scope.md R16).
-/

namespace Sys2Proof.Machine

/-- `PC <- a` in `n` cycles (R351, R353). -/
def jump (n : Nat) (a : Word) (s : State) : Result := finish n (s.setPc a)

/-- `JP cc,a16`: 16 cycles taken, 12 not taken (R352). -/
def jumpIf (cc : Cond) (a : Word) (s : State) : Result := if s.cpu.f.holds cc then jump 16 a s else finish 12 s

/-- `PC <- (PC + sext_8(e)) mod 65536` (R354). -/
def jumpRel (e : Byte) (s : State) : Result := finish 12 (s.setPc (s.cpu.pc + e.signExtend 16))

/-- `JR cc,e8`: 12 cycles taken, 8 not taken (R355). -/
def jumpRelIf (cc : Cond) (e : Byte) (s : State) : Result := if s.cpu.f.holds cc then jumpRel e s else finish 8 s

/-- `Push16(PC); PC <- a` in `n` cycles (R356, R361). -/
def call (n : Nat) (a : Word) (s : State) : Result := finish n ((s.push16 s.cpu.pc).setPc a)

/-- `CALL cc,a16`: 24 cycles taken, 12 not taken (R357). -/
def callIf (cc : Cond) (a : Word) (s : State) : Result := if s.cpu.f.holds cc then call 24 a s else finish 12 s

/-- `PC <- Pop16()` in `n` cycles (R358). -/
def ret (n : Nat) (s : State) : Result := finish n (s.dropTop.setPc s.stackTop)

/-- `RET cc`: 20 cycles taken, 8 not taken (R359). -/
def retIf (cc : Cond) (s : State) : Result := if s.cpu.f.holds cc then ret 20 s else finish 8 s

/-- `RETI` (R360). -/
def retInterrupt (s : State) : Result := finish 16 s.returnFromInterrupt

/-! ### One meaning per instruction -/

/-- `JR e8` (R354) -/
def execJrE8 (e8 : Byte) (s : State) : Result := jumpRel e8 s

/-- `JR NZ,e8` (R355) -/
def execJrNzE8 (e8 : Byte) (s : State) : Result := jumpRelIf .nz e8 s

/-- `JR Z,e8` (R355) -/
def execJrZE8 (e8 : Byte) (s : State) : Result := jumpRelIf .z e8 s

/-- `JR NC,e8` (R355) -/
def execJrNcE8 (e8 : Byte) (s : State) : Result := jumpRelIf .nc e8 s

/-- `JR C,e8` (R355) -/
def execJrCE8 (e8 : Byte) (s : State) : Result := jumpRelIf .c e8 s

/-- `RET NZ` (R359) -/
def execRetNz (s : State) : Result := retIf .nz s

/-- `JP NZ,a16` (R352) -/
def execJpNzA16 (a16 : Word) (s : State) : Result := jumpIf .nz a16 s

/-- `JP a16` (R351) -/
def execJpA16 (a16 : Word) (s : State) : Result := jump 16 a16 s

/-- `CALL NZ,a16` (R357) -/
def execCallNzA16 (a16 : Word) (s : State) : Result := callIf .nz a16 s

/-- `RST 00H` (R361) -/
def execRst00 (s : State) : Result := call 16 0x0000 s

/-- `RET Z` (R359) -/
def execRetZ (s : State) : Result := retIf .z s

/-- `RET` (R358) -/
def execRet (s : State) : Result := ret 16 s

/-- `JP Z,a16` (R352) -/
def execJpZA16 (a16 : Word) (s : State) : Result := jumpIf .z a16 s

/-- `CALL Z,a16` (R357) -/
def execCallZA16 (a16 : Word) (s : State) : Result := callIf .z a16 s

/-- `CALL a16` (R356) -/
def execCallA16 (a16 : Word) (s : State) : Result := call 24 a16 s

/-- `RST 08H` (R361) -/
def execRst08 (s : State) : Result := call 16 0x0008 s

/-- `RET NC` (R359) -/
def execRetNc (s : State) : Result := retIf .nc s

/-- `JP NC,a16` (R352) -/
def execJpNcA16 (a16 : Word) (s : State) : Result := jumpIf .nc a16 s

/-- `CALL NC,a16` (R357) -/
def execCallNcA16 (a16 : Word) (s : State) : Result := callIf .nc a16 s

/-- `RST 10H` (R361) -/
def execRst10 (s : State) : Result := call 16 0x0010 s

/-- `RET C` (R359) -/
def execRetC (s : State) : Result := retIf .c s

/-- `RETI` (R360) -/
def execReti (s : State) : Result := retInterrupt s

/-- `JP C,a16` (R352) -/
def execJpCA16 (a16 : Word) (s : State) : Result := jumpIf .c a16 s

/-- `CALL C,a16` (R357) -/
def execCallCA16 (a16 : Word) (s : State) : Result := callIf .c a16 s

/-- `RST 18H` (R361) -/
def execRst18 (s : State) : Result := call 16 0x0018 s

/-- `RST 20H` (R361) -/
def execRst20 (s : State) : Result := call 16 0x0020 s

/-- `JP HL` (R353) -/
def execJpHl (s : State) : Result := jump 4 s.cpu.hl s

/-- `RST 28H` (R361) -/
def execRst28 (s : State) : Result := call 16 0x0028 s

/-- `RST 30H` (R361) -/
def execRst30 (s : State) : Result := call 16 0x0030 s

/-- `RST 38H` (R361) -/
def execRst38 (s : State) : Result := call 16 0x0038 s

end Sys2Proof.Machine
end

