-- ==== Sys2Proof/Machine/Load16.lean ====
section
/-!
DEFINITION. Machine/Load16.lean: the 16-bit loads, stores and stack instructions (41_load16.md R230 to R236).
-/

namespace Sys2Proof.Machine

/-- `r16[p] <- d16` (R230). -/
def ldPairImm (p : Pair) (v : Word) (s : State) : Result := finish 12 (s.setPair p v)

/-- `MemWrite(a, 2, SP)`, the low byte first (R231). -/
def storeSp (a : Word) (s : State) : Result := finish 20 (s.busWrite16 a s.cpu.sp)

/-- `SP <- HL` (R232). -/
def ldSpHl (s : State) : Result := finish 8 (s.setSp s.cpu.hl)

/-- `HL <- SP + sext_8(e)` with the flags of the low-byte addition (R233). -/
def ldHlSpDisp (e : Byte) (s : State) : Result :=
  finish 12 ((s.setPair .hl (addSpDisp s.cpu.sp e).1).setFlags (addSpDisp s.cpu.sp e).2)

/-- `Push16(r16stk[p])` (R234). -/
def push (p : StackPair) (s : State) : Result := finish 16 (s.push16 (s.cpu.stackPair p))

/-- `r16stk[p] <- Pop16()` (R235, R236). -/
def pop (p : StackPair) (s : State) : Result :=
  finish 12 { s.dropTop with cpu := s.dropTop.cpu.setStackPair p s.stackTop }

/-! ### One meaning per instruction -/

/-- `LD BC,d16` (R230) -/
def execLdBcD16 (d16 : Word) (s : State) : Result := ldPairImm .bc d16 s

/-- `LD (a16),SP` (R231) -/
def execLdAtA16Sp (a16 : Word) (s : State) : Result := storeSp a16 s

/-- `LD DE,d16` (R230) -/
def execLdDeD16 (d16 : Word) (s : State) : Result := ldPairImm .de d16 s

/-- `LD HL,d16` (R230) -/
def execLdHlD16 (d16 : Word) (s : State) : Result := ldPairImm .hl d16 s

/-- `LD SP,d16` (R230) -/
def execLdSpD16 (d16 : Word) (s : State) : Result := ldPairImm .sp d16 s

/-- `POP BC` (R235) -/
def execPopBc (s : State) : Result := pop .bc s

/-- `PUSH BC` (R234) -/
def execPushBc (s : State) : Result := push .bc s

/-- `POP DE` (R235) -/
def execPopDe (s : State) : Result := pop .de s

/-- `PUSH DE` (R234) -/
def execPushDe (s : State) : Result := push .de s

/-- `POP HL` (R235) -/
def execPopHl (s : State) : Result := pop .hl s

/-- `PUSH HL` (R234) -/
def execPushHl (s : State) : Result := push .hl s

/-- `POP AF` (R236) -/
def execPopAf (s : State) : Result := pop .af s

/-- `PUSH AF` (R234) -/
def execPushAf (s : State) : Result := push .af s

/-- `LD HL,SP+e8` (R233) -/
def execLdHlSpE8 (e8 : Byte) (s : State) : Result := ldHlSpDisp e8 s

/-- `LD SP,HL` (R232) -/
def execLdSpHl (s : State) : Result := ldSpHl s

end Sys2Proof.Machine
end

