-- ==== Sys2Proof/Machine/Load8.lean ====
section
/-!
DEFINITION. Machine/Load8.lean: the 8-bit loads and stores (40_load8.md R200 to R218). None changes a flag. A meaning
starts with PC past the instruction's bytes and with its immediate decoded (00_scope.md R16, Log 10).
-/

namespace Sys2Proof.Machine

/-- `r8[y] <- r8[z]` (R200). -/
def ldRegReg (dst r : Reg8) (s : State) : Result := finish 4 (s.setReg dst (s.cpu.reg r))

/-- `r8[y] <- d8` (R201). -/
def ldRegImm (dst : Reg8) (v : Byte) (s : State) : Result := finish 8 (s.setReg dst v)

/-- `r8[y] <- MemRead(HL, 1)` (R202). -/
def ldRegHl (dst : Reg8) (s : State) : Result := finish 8 (s.setReg dst s.readHl)

/-- `MemWrite(HL, 1, r8[z])` (R203). -/
def ldHlReg (r : Reg8) (s : State) : Result := finish 8 (s.writeHl (s.cpu.reg r))

/-- `MemWrite(HL, 1, d8)` (R204). -/
def ldHlImm (v : Byte) (s : State) : Result := finish 12 (s.writeHl v)

/-- `A <- MemRead(a, 1)` in `n` cycles (R205, R206, R209, R211, R213). -/
def loadA (n : Nat) (a : Word) (s : State) : Result := finish n (s.setReg .a (s.busRead a))

/-- `MemWrite(a, 1, A)` in `n` cycles (R207, R208, R210, R212, R214). -/
def storeA (n : Nat) (a : Word) (s : State) : Result := finish n (s.busWrite a s.cpu.a)

/-- `A <- MemRead(HL, 1)`, then HL moves by `step` modulo 65536 (R215, R217). -/
def loadAHlStep (step : Word) (s : State) : Result :=
  finish 8 ((s.setReg .a s.readHl).setPair .hl (s.cpu.hl + step))

/-- `MemWrite(HL, 1, A)`, then HL moves by `step` modulo 65536 (R216, R218). -/
def storeAHlStep (step : Word) (s : State) : Result :=
  finish 8 ((s.writeHl s.cpu.a).setPair .hl (s.cpu.hl + step))

/-! ### One meaning per instruction -/

/-- `LD (BC),A` (R207) -/
def execLdAtBcA (s : State) : Result := storeA 8 s.cpu.bc s

/-- `LD B,d8` (R201) -/
def execLdBD8 (d8 : Byte) (s : State) : Result := ldRegImm .b d8 s

/-- `LD A,(BC)` (R205) -/
def execLdAAtBc (s : State) : Result := loadA 8 s.cpu.bc s

/-- `LD C,d8` (R201) -/
def execLdCD8 (d8 : Byte) (s : State) : Result := ldRegImm .c d8 s

/-- `LD (DE),A` (R208) -/
def execLdAtDeA (s : State) : Result := storeA 8 s.cpu.de s

/-- `LD D,d8` (R201) -/
def execLdDD8 (d8 : Byte) (s : State) : Result := ldRegImm .d d8 s

/-- `LD A,(DE)` (R206) -/
def execLdAAtDe (s : State) : Result := loadA 8 s.cpu.de s

/-- `LD E,d8` (R201) -/
def execLdED8 (d8 : Byte) (s : State) : Result := ldRegImm .e d8 s

/-- `LD (HL+),A` (R218) -/
def execLdAtHlIncA (s : State) : Result := storeAHlStep 1 s

/-- `LD H,d8` (R201) -/
def execLdHD8 (d8 : Byte) (s : State) : Result := ldRegImm .h d8 s

/-- `LD A,(HL+)` (R217) -/
def execLdAAtHlInc (s : State) : Result := loadAHlStep 1 s

/-- `LD L,d8` (R201) -/
def execLdLD8 (d8 : Byte) (s : State) : Result := ldRegImm .l d8 s

/-- `LD (HL-),A` (R216) -/
def execLdAtHlDecA (s : State) : Result := storeAHlStep (-1) s

/-- `LD (HL),d8` (R204) -/
def execLdAtHlD8 (d8 : Byte) (s : State) : Result := ldHlImm d8 s

/-- `LD A,(HL-)` (R215) -/
def execLdAAtHlDec (s : State) : Result := loadAHlStep (-1) s

/-- `LD A,d8` (R201) -/
def execLdAD8 (d8 : Byte) (s : State) : Result := ldRegImm .a d8 s

/-- `LD B,B` (R200) -/
def execLdBB (s : State) : Result := ldRegReg .b .b s

/-- `LD B,C` (R200) -/
def execLdBC (s : State) : Result := ldRegReg .b .c s

/-- `LD B,D` (R200) -/
def execLdBD (s : State) : Result := ldRegReg .b .d s

/-- `LD B,E` (R200) -/
def execLdBE (s : State) : Result := ldRegReg .b .e s

/-- `LD B,H` (R200) -/
def execLdBH (s : State) : Result := ldRegReg .b .h s

/-- `LD B,L` (R200) -/
def execLdBL (s : State) : Result := ldRegReg .b .l s

/-- `LD B,(HL)` (R202) -/
def execLdBAtHl (s : State) : Result := ldRegHl .b s

/-- `LD B,A` (R200) -/
def execLdBA (s : State) : Result := ldRegReg .b .a s

/-- `LD C,B` (R200) -/
def execLdCB (s : State) : Result := ldRegReg .c .b s

/-- `LD C,C` (R200) -/
def execLdCC (s : State) : Result := ldRegReg .c .c s

/-- `LD C,D` (R200) -/
def execLdCD (s : State) : Result := ldRegReg .c .d s

/-- `LD C,E` (R200) -/
def execLdCE (s : State) : Result := ldRegReg .c .e s

/-- `LD C,H` (R200) -/
def execLdCH (s : State) : Result := ldRegReg .c .h s

/-- `LD C,L` (R200) -/
def execLdCL (s : State) : Result := ldRegReg .c .l s

/-- `LD C,(HL)` (R202) -/
def execLdCAtHl (s : State) : Result := ldRegHl .c s

/-- `LD C,A` (R200) -/
def execLdCA (s : State) : Result := ldRegReg .c .a s

/-- `LD D,B` (R200) -/
def execLdDB (s : State) : Result := ldRegReg .d .b s

/-- `LD D,C` (R200) -/
def execLdDC (s : State) : Result := ldRegReg .d .c s

/-- `LD D,D` (R200) -/
def execLdDD (s : State) : Result := ldRegReg .d .d s

/-- `LD D,E` (R200) -/
def execLdDE (s : State) : Result := ldRegReg .d .e s

/-- `LD D,H` (R200) -/
def execLdDH (s : State) : Result := ldRegReg .d .h s

/-- `LD D,L` (R200) -/
def execLdDL (s : State) : Result := ldRegReg .d .l s

/-- `LD D,(HL)` (R202) -/
def execLdDAtHl (s : State) : Result := ldRegHl .d s

/-- `LD D,A` (R200) -/
def execLdDA (s : State) : Result := ldRegReg .d .a s

/-- `LD E,B` (R200) -/
def execLdEB (s : State) : Result := ldRegReg .e .b s

/-- `LD E,C` (R200) -/
def execLdEC (s : State) : Result := ldRegReg .e .c s

/-- `LD E,D` (R200) -/
def execLdED (s : State) : Result := ldRegReg .e .d s

/-- `LD E,E` (R200) -/
def execLdEE (s : State) : Result := ldRegReg .e .e s

/-- `LD E,H` (R200) -/
def execLdEH (s : State) : Result := ldRegReg .e .h s

/-- `LD E,L` (R200) -/
def execLdEL (s : State) : Result := ldRegReg .e .l s

/-- `LD E,(HL)` (R202) -/
def execLdEAtHl (s : State) : Result := ldRegHl .e s

/-- `LD E,A` (R200) -/
def execLdEA (s : State) : Result := ldRegReg .e .a s

/-- `LD H,B` (R200) -/
def execLdHB (s : State) : Result := ldRegReg .h .b s

/-- `LD H,C` (R200) -/
def execLdHC (s : State) : Result := ldRegReg .h .c s

/-- `LD H,D` (R200) -/
def execLdHD (s : State) : Result := ldRegReg .h .d s

/-- `LD H,E` (R200) -/
def execLdHE (s : State) : Result := ldRegReg .h .e s

/-- `LD H,H` (R200) -/
def execLdHH (s : State) : Result := ldRegReg .h .h s

/-- `LD H,L` (R200) -/
def execLdHL (s : State) : Result := ldRegReg .h .l s

/-- `LD H,(HL)` (R202) -/
def execLdHAtHl (s : State) : Result := ldRegHl .h s

/-- `LD H,A` (R200) -/
def execLdHA (s : State) : Result := ldRegReg .h .a s

/-- `LD L,B` (R200) -/
def execLdLB (s : State) : Result := ldRegReg .l .b s

/-- `LD L,C` (R200) -/
def execLdLC (s : State) : Result := ldRegReg .l .c s

/-- `LD L,D` (R200) -/
def execLdLD (s : State) : Result := ldRegReg .l .d s

/-- `LD L,E` (R200) -/
def execLdLE (s : State) : Result := ldRegReg .l .e s

/-- `LD L,H` (R200) -/
def execLdLH (s : State) : Result := ldRegReg .l .h s

/-- `LD L,L` (R200) -/
def execLdLL (s : State) : Result := ldRegReg .l .l s

/-- `LD L,(HL)` (R202) -/
def execLdLAtHl (s : State) : Result := ldRegHl .l s

/-- `LD L,A` (R200) -/
def execLdLA (s : State) : Result := ldRegReg .l .a s

/-- `LD (HL),B` (R203) -/
def execLdAtHlB (s : State) : Result := ldHlReg .b s

/-- `LD (HL),C` (R203) -/
def execLdAtHlC (s : State) : Result := ldHlReg .c s

/-- `LD (HL),D` (R203) -/
def execLdAtHlD (s : State) : Result := ldHlReg .d s

/-- `LD (HL),E` (R203) -/
def execLdAtHlE (s : State) : Result := ldHlReg .e s

/-- `LD (HL),H` (R203) -/
def execLdAtHlH (s : State) : Result := ldHlReg .h s

/-- `LD (HL),L` (R203) -/
def execLdAtHlL (s : State) : Result := ldHlReg .l s

/-- `LD (HL),A` (R203) -/
def execLdAtHlA (s : State) : Result := ldHlReg .a s

/-- `LD A,B` (R200) -/
def execLdAB (s : State) : Result := ldRegReg .a .b s

/-- `LD A,C` (R200) -/
def execLdAC (s : State) : Result := ldRegReg .a .c s

/-- `LD A,D` (R200) -/
def execLdAD (s : State) : Result := ldRegReg .a .d s

/-- `LD A,E` (R200) -/
def execLdAE (s : State) : Result := ldRegReg .a .e s

/-- `LD A,H` (R200) -/
def execLdAH (s : State) : Result := ldRegReg .a .h s

/-- `LD A,L` (R200) -/
def execLdAL (s : State) : Result := ldRegReg .a .l s

/-- `LD A,(HL)` (R202) -/
def execLdAAtHl (s : State) : Result := ldRegHl .a s

/-- `LD A,A` (R200) -/
def execLdAA (s : State) : Result := ldRegReg .a .a s

/-- `LDH (a8),A` (R214) -/
def execLdhAtA8A (a8 : Byte) (s : State) : Result := storeA 12 (highPage a8) s

/-- `LDH (C),A` (R212) -/
def execLdhAtCA (s : State) : Result := storeA 8 (highPage s.cpu.c) s

/-- `LD (a16),A` (R210) -/
def execLdAtA16A (a16 : Word) (s : State) : Result := storeA 16 a16 s

/-- `LDH A,(a8)` (R213) -/
def execLdhAAtA8 (a8 : Byte) (s : State) : Result := loadA 12 (highPage a8) s

/-- `LDH A,(C)` (R211) -/
def execLdhAAtC (s : State) : Result := loadA 8 (highPage s.cpu.c) s

/-- `LD A,(a16)` (R209) -/
def execLdAAtA16 (a16 : Word) (s : State) : Result := loadA 16 a16 s

end Sys2Proof.Machine
end

