-- ==== Sys2Proof/Machine/RotateBit.lean ====
section
/-!
DEFINITION. Machine/RotateBit.lean: the rotate, shift and bit instructions (44_rotate_bit.md R310 to R336).
-/

namespace Sys2Proof.Machine

/-- An accumulator rotate: the result of the prefixed operation of the same name, with Z, N and H cleared
(R310 to R313). -/
def rotAcc (op : RotOp) (s : State) : Result :=
  finish 4 (s.setAccFlags ((rotResult op s.cpu.a s.cpu.f.c).1, accRotFlags (rotResult op s.cpu.a s.cpu.f.c).2))

/-- The register form of a rotate or shift (R314). -/
def rotReg (op : RotOp) (r : Reg8) (s : State) : Result :=
  let x := rotResult op (s.cpu.reg r) s.cpu.f.c
  finish 8 ((s.setReg r x.1).setFlags (rotFlags x.1 x.2))

/-- The memory form of a rotate or shift: one read, one write (R314). -/
def rotHl (op : RotOp) (s : State) : Result :=
  let x := rotResult op s.readHl s.cpu.f.c
  finish 16 ((s.writeHl x.1).setFlags (rotFlags x.1 x.2))

/-- `BIT b,r` (R331). -/
def testBitReg (b : Nat) (r : Reg8) (s : State) : Result := finish 8 (s.setFlags (bitFlags (s.cpu.reg r) b s.cpu.f))

/-- `BIT b,(HL)`: one read, no write (R332). -/
def testBitHl (b : Nat) (s : State) : Result := finish 12 (s.setFlags (bitFlags s.readHl b s.cpu.f))

/-- `RES b,r` (R333). -/
def resetBitReg (b : Nat) (r : Reg8) (s : State) : Result := finish 8 (s.setReg r (resetBit (s.cpu.reg r) b))

/-- `RES b,(HL)`: always one read and one write (R334). -/
def resetBitHl (b : Nat) (s : State) : Result := finish 16 (s.writeHl (resetBit s.readHl b))

/-- `SET b,r` (R335). -/
def setBitReg (b : Nat) (r : Reg8) (s : State) : Result := finish 8 (s.setReg r (setBit (s.cpu.reg r) b))

/-- `SET b,(HL)`: always one read and one write (R336). -/
def setBitHl (b : Nat) (s : State) : Result := finish 16 (s.writeHl (setBit s.readHl b))

/-! ### One meaning per instruction -/

/-- `RLCA` (R310) -/
def execRlca (s : State) : Result := rotAcc .rlc s

/-- `RRCA` (R311) -/
def execRrca (s : State) : Result := rotAcc .rrc s

/-- `RLA` (R312) -/
def execRla (s : State) : Result := rotAcc .rl s

/-- `RRA` (R313) -/
def execRra (s : State) : Result := rotAcc .rr s

/-- `RLC B` (R315) -/
def execRlcB (s : State) : Result := rotReg .rlc .b s

/-- `RLC C` (R315) -/
def execRlcC (s : State) : Result := rotReg .rlc .c s

/-- `RLC D` (R315) -/
def execRlcD (s : State) : Result := rotReg .rlc .d s

/-- `RLC E` (R315) -/
def execRlcE (s : State) : Result := rotReg .rlc .e s

/-- `RLC H` (R315) -/
def execRlcH (s : State) : Result := rotReg .rlc .h s

/-- `RLC L` (R315) -/
def execRlcL (s : State) : Result := rotReg .rlc .l s

/-- `RLC (HL)` (R316) -/
def execRlcAtHl (s : State) : Result := rotHl .rlc s

/-- `RLC A` (R315) -/
def execRlcA (s : State) : Result := rotReg .rlc .a s

/-- `RRC B` (R317) -/
def execRrcB (s : State) : Result := rotReg .rrc .b s

/-- `RRC C` (R317) -/
def execRrcC (s : State) : Result := rotReg .rrc .c s

/-- `RRC D` (R317) -/
def execRrcD (s : State) : Result := rotReg .rrc .d s

/-- `RRC E` (R317) -/
def execRrcE (s : State) : Result := rotReg .rrc .e s

/-- `RRC H` (R317) -/
def execRrcH (s : State) : Result := rotReg .rrc .h s

/-- `RRC L` (R317) -/
def execRrcL (s : State) : Result := rotReg .rrc .l s

/-- `RRC (HL)` (R318) -/
def execRrcAtHl (s : State) : Result := rotHl .rrc s

/-- `RRC A` (R317) -/
def execRrcA (s : State) : Result := rotReg .rrc .a s

/-- `RL B` (R319) -/
def execRlB (s : State) : Result := rotReg .rl .b s

/-- `RL C` (R319) -/
def execRlC (s : State) : Result := rotReg .rl .c s

/-- `RL D` (R319) -/
def execRlD (s : State) : Result := rotReg .rl .d s

/-- `RL E` (R319) -/
def execRlE (s : State) : Result := rotReg .rl .e s

/-- `RL H` (R319) -/
def execRlH (s : State) : Result := rotReg .rl .h s

/-- `RL L` (R319) -/
def execRlL (s : State) : Result := rotReg .rl .l s

/-- `RL (HL)` (R320) -/
def execRlAtHl (s : State) : Result := rotHl .rl s

/-- `RL A` (R319) -/
def execRlA (s : State) : Result := rotReg .rl .a s

/-- `RR B` (R321) -/
def execRrB (s : State) : Result := rotReg .rr .b s

/-- `RR C` (R321) -/
def execRrC (s : State) : Result := rotReg .rr .c s

/-- `RR D` (R321) -/
def execRrD (s : State) : Result := rotReg .rr .d s

/-- `RR E` (R321) -/
def execRrE (s : State) : Result := rotReg .rr .e s

/-- `RR H` (R321) -/
def execRrH (s : State) : Result := rotReg .rr .h s

/-- `RR L` (R321) -/
def execRrL (s : State) : Result := rotReg .rr .l s

/-- `RR (HL)` (R322) -/
def execRrAtHl (s : State) : Result := rotHl .rr s

/-- `RR A` (R321) -/
def execRrA (s : State) : Result := rotReg .rr .a s

/-- `SLA B` (R323) -/
def execSlaB (s : State) : Result := rotReg .sla .b s

/-- `SLA C` (R323) -/
def execSlaC (s : State) : Result := rotReg .sla .c s

/-- `SLA D` (R323) -/
def execSlaD (s : State) : Result := rotReg .sla .d s

/-- `SLA E` (R323) -/
def execSlaE (s : State) : Result := rotReg .sla .e s

/-- `SLA H` (R323) -/
def execSlaH (s : State) : Result := rotReg .sla .h s

/-- `SLA L` (R323) -/
def execSlaL (s : State) : Result := rotReg .sla .l s

/-- `SLA (HL)` (R324) -/
def execSlaAtHl (s : State) : Result := rotHl .sla s

/-- `SLA A` (R323) -/
def execSlaA (s : State) : Result := rotReg .sla .a s

/-- `SRA B` (R325) -/
def execSraB (s : State) : Result := rotReg .sra .b s

/-- `SRA C` (R325) -/
def execSraC (s : State) : Result := rotReg .sra .c s

/-- `SRA D` (R325) -/
def execSraD (s : State) : Result := rotReg .sra .d s

/-- `SRA E` (R325) -/
def execSraE (s : State) : Result := rotReg .sra .e s

/-- `SRA H` (R325) -/
def execSraH (s : State) : Result := rotReg .sra .h s

/-- `SRA L` (R325) -/
def execSraL (s : State) : Result := rotReg .sra .l s

/-- `SRA (HL)` (R326) -/
def execSraAtHl (s : State) : Result := rotHl .sra s

/-- `SRA A` (R325) -/
def execSraA (s : State) : Result := rotReg .sra .a s

/-- `SWAP B` (R327) -/
def execSwapB (s : State) : Result := rotReg .swap .b s

/-- `SWAP C` (R327) -/
def execSwapC (s : State) : Result := rotReg .swap .c s

/-- `SWAP D` (R327) -/
def execSwapD (s : State) : Result := rotReg .swap .d s

/-- `SWAP E` (R327) -/
def execSwapE (s : State) : Result := rotReg .swap .e s

/-- `SWAP H` (R327) -/
def execSwapH (s : State) : Result := rotReg .swap .h s

/-- `SWAP L` (R327) -/
def execSwapL (s : State) : Result := rotReg .swap .l s

/-- `SWAP (HL)` (R328) -/
def execSwapAtHl (s : State) : Result := rotHl .swap s

/-- `SWAP A` (R327) -/
def execSwapA (s : State) : Result := rotReg .swap .a s

/-- `SRL B` (R329) -/
def execSrlB (s : State) : Result := rotReg .srl .b s

/-- `SRL C` (R329) -/
def execSrlC (s : State) : Result := rotReg .srl .c s

/-- `SRL D` (R329) -/
def execSrlD (s : State) : Result := rotReg .srl .d s

/-- `SRL E` (R329) -/
def execSrlE (s : State) : Result := rotReg .srl .e s

/-- `SRL H` (R329) -/
def execSrlH (s : State) : Result := rotReg .srl .h s

/-- `SRL L` (R329) -/
def execSrlL (s : State) : Result := rotReg .srl .l s

/-- `SRL (HL)` (R330) -/
def execSrlAtHl (s : State) : Result := rotHl .srl s

/-- `SRL A` (R329) -/
def execSrlA (s : State) : Result := rotReg .srl .a s

/-- `BIT 0,B` (R331) -/
def execBit0B (s : State) : Result := testBitReg 0 .b s

/-- `BIT 0,C` (R331) -/
def execBit0C (s : State) : Result := testBitReg 0 .c s

/-- `BIT 0,D` (R331) -/
def execBit0D (s : State) : Result := testBitReg 0 .d s

/-- `BIT 0,E` (R331) -/
def execBit0E (s : State) : Result := testBitReg 0 .e s

/-- `BIT 0,H` (R331) -/
def execBit0H (s : State) : Result := testBitReg 0 .h s

/-- `BIT 0,L` (R331) -/
def execBit0L (s : State) : Result := testBitReg 0 .l s

/-- `BIT 0,(HL)` (R332) -/
def execBit0AtHl (s : State) : Result := testBitHl 0 s

/-- `BIT 0,A` (R331) -/
def execBit0A (s : State) : Result := testBitReg 0 .a s

/-- `BIT 1,B` (R331) -/
def execBit1B (s : State) : Result := testBitReg 1 .b s

/-- `BIT 1,C` (R331) -/
def execBit1C (s : State) : Result := testBitReg 1 .c s

/-- `BIT 1,D` (R331) -/
def execBit1D (s : State) : Result := testBitReg 1 .d s

/-- `BIT 1,E` (R331) -/
def execBit1E (s : State) : Result := testBitReg 1 .e s

/-- `BIT 1,H` (R331) -/
def execBit1H (s : State) : Result := testBitReg 1 .h s

/-- `BIT 1,L` (R331) -/
def execBit1L (s : State) : Result := testBitReg 1 .l s

/-- `BIT 1,(HL)` (R332) -/
def execBit1AtHl (s : State) : Result := testBitHl 1 s

/-- `BIT 1,A` (R331) -/
def execBit1A (s : State) : Result := testBitReg 1 .a s

/-- `BIT 2,B` (R331) -/
def execBit2B (s : State) : Result := testBitReg 2 .b s

/-- `BIT 2,C` (R331) -/
def execBit2C (s : State) : Result := testBitReg 2 .c s

/-- `BIT 2,D` (R331) -/
def execBit2D (s : State) : Result := testBitReg 2 .d s

/-- `BIT 2,E` (R331) -/
def execBit2E (s : State) : Result := testBitReg 2 .e s

/-- `BIT 2,H` (R331) -/
def execBit2H (s : State) : Result := testBitReg 2 .h s

/-- `BIT 2,L` (R331) -/
def execBit2L (s : State) : Result := testBitReg 2 .l s

/-- `BIT 2,(HL)` (R332) -/
def execBit2AtHl (s : State) : Result := testBitHl 2 s

/-- `BIT 2,A` (R331) -/
def execBit2A (s : State) : Result := testBitReg 2 .a s

/-- `BIT 3,B` (R331) -/
def execBit3B (s : State) : Result := testBitReg 3 .b s

/-- `BIT 3,C` (R331) -/
def execBit3C (s : State) : Result := testBitReg 3 .c s

/-- `BIT 3,D` (R331) -/
def execBit3D (s : State) : Result := testBitReg 3 .d s

/-- `BIT 3,E` (R331) -/
def execBit3E (s : State) : Result := testBitReg 3 .e s

/-- `BIT 3,H` (R331) -/
def execBit3H (s : State) : Result := testBitReg 3 .h s

/-- `BIT 3,L` (R331) -/
def execBit3L (s : State) : Result := testBitReg 3 .l s

/-- `BIT 3,(HL)` (R332) -/
def execBit3AtHl (s : State) : Result := testBitHl 3 s

/-- `BIT 3,A` (R331) -/
def execBit3A (s : State) : Result := testBitReg 3 .a s

/-- `BIT 4,B` (R331) -/
def execBit4B (s : State) : Result := testBitReg 4 .b s

/-- `BIT 4,C` (R331) -/
def execBit4C (s : State) : Result := testBitReg 4 .c s

/-- `BIT 4,D` (R331) -/
def execBit4D (s : State) : Result := testBitReg 4 .d s

/-- `BIT 4,E` (R331) -/
def execBit4E (s : State) : Result := testBitReg 4 .e s

/-- `BIT 4,H` (R331) -/
def execBit4H (s : State) : Result := testBitReg 4 .h s

/-- `BIT 4,L` (R331) -/
def execBit4L (s : State) : Result := testBitReg 4 .l s

/-- `BIT 4,(HL)` (R332) -/
def execBit4AtHl (s : State) : Result := testBitHl 4 s

/-- `BIT 4,A` (R331) -/
def execBit4A (s : State) : Result := testBitReg 4 .a s

/-- `BIT 5,B` (R331) -/
def execBit5B (s : State) : Result := testBitReg 5 .b s

/-- `BIT 5,C` (R331) -/
def execBit5C (s : State) : Result := testBitReg 5 .c s

/-- `BIT 5,D` (R331) -/
def execBit5D (s : State) : Result := testBitReg 5 .d s

/-- `BIT 5,E` (R331) -/
def execBit5E (s : State) : Result := testBitReg 5 .e s

/-- `BIT 5,H` (R331) -/
def execBit5H (s : State) : Result := testBitReg 5 .h s

/-- `BIT 5,L` (R331) -/
def execBit5L (s : State) : Result := testBitReg 5 .l s

/-- `BIT 5,(HL)` (R332) -/
def execBit5AtHl (s : State) : Result := testBitHl 5 s

/-- `BIT 5,A` (R331) -/
def execBit5A (s : State) : Result := testBitReg 5 .a s

/-- `BIT 6,B` (R331) -/
def execBit6B (s : State) : Result := testBitReg 6 .b s

/-- `BIT 6,C` (R331) -/
def execBit6C (s : State) : Result := testBitReg 6 .c s

/-- `BIT 6,D` (R331) -/
def execBit6D (s : State) : Result := testBitReg 6 .d s

/-- `BIT 6,E` (R331) -/
def execBit6E (s : State) : Result := testBitReg 6 .e s

/-- `BIT 6,H` (R331) -/
def execBit6H (s : State) : Result := testBitReg 6 .h s

/-- `BIT 6,L` (R331) -/
def execBit6L (s : State) : Result := testBitReg 6 .l s

/-- `BIT 6,(HL)` (R332) -/
def execBit6AtHl (s : State) : Result := testBitHl 6 s

/-- `BIT 6,A` (R331) -/
def execBit6A (s : State) : Result := testBitReg 6 .a s

/-- `BIT 7,B` (R331) -/
def execBit7B (s : State) : Result := testBitReg 7 .b s

/-- `BIT 7,C` (R331) -/
def execBit7C (s : State) : Result := testBitReg 7 .c s

/-- `BIT 7,D` (R331) -/
def execBit7D (s : State) : Result := testBitReg 7 .d s

/-- `BIT 7,E` (R331) -/
def execBit7E (s : State) : Result := testBitReg 7 .e s

/-- `BIT 7,H` (R331) -/
def execBit7H (s : State) : Result := testBitReg 7 .h s

/-- `BIT 7,L` (R331) -/
def execBit7L (s : State) : Result := testBitReg 7 .l s

/-- `BIT 7,(HL)` (R332) -/
def execBit7AtHl (s : State) : Result := testBitHl 7 s

/-- `BIT 7,A` (R331) -/
def execBit7A (s : State) : Result := testBitReg 7 .a s

/-- `RES 0,B` (R333) -/
def execRes0B (s : State) : Result := resetBitReg 0 .b s

/-- `RES 0,C` (R333) -/
def execRes0C (s : State) : Result := resetBitReg 0 .c s

/-- `RES 0,D` (R333) -/
def execRes0D (s : State) : Result := resetBitReg 0 .d s

/-- `RES 0,E` (R333) -/
def execRes0E (s : State) : Result := resetBitReg 0 .e s

/-- `RES 0,H` (R333) -/
def execRes0H (s : State) : Result := resetBitReg 0 .h s

/-- `RES 0,L` (R333) -/
def execRes0L (s : State) : Result := resetBitReg 0 .l s

/-- `RES 0,(HL)` (R334) -/
def execRes0AtHl (s : State) : Result := resetBitHl 0 s

/-- `RES 0,A` (R333) -/
def execRes0A (s : State) : Result := resetBitReg 0 .a s

/-- `RES 1,B` (R333) -/
def execRes1B (s : State) : Result := resetBitReg 1 .b s

/-- `RES 1,C` (R333) -/
def execRes1C (s : State) : Result := resetBitReg 1 .c s

/-- `RES 1,D` (R333) -/
def execRes1D (s : State) : Result := resetBitReg 1 .d s

/-- `RES 1,E` (R333) -/
def execRes1E (s : State) : Result := resetBitReg 1 .e s

/-- `RES 1,H` (R333) -/
def execRes1H (s : State) : Result := resetBitReg 1 .h s

/-- `RES 1,L` (R333) -/
def execRes1L (s : State) : Result := resetBitReg 1 .l s

/-- `RES 1,(HL)` (R334) -/
def execRes1AtHl (s : State) : Result := resetBitHl 1 s

/-- `RES 1,A` (R333) -/
def execRes1A (s : State) : Result := resetBitReg 1 .a s

/-- `RES 2,B` (R333) -/
def execRes2B (s : State) : Result := resetBitReg 2 .b s

/-- `RES 2,C` (R333) -/
def execRes2C (s : State) : Result := resetBitReg 2 .c s

/-- `RES 2,D` (R333) -/
def execRes2D (s : State) : Result := resetBitReg 2 .d s

/-- `RES 2,E` (R333) -/
def execRes2E (s : State) : Result := resetBitReg 2 .e s

/-- `RES 2,H` (R333) -/
def execRes2H (s : State) : Result := resetBitReg 2 .h s

/-- `RES 2,L` (R333) -/
def execRes2L (s : State) : Result := resetBitReg 2 .l s

/-- `RES 2,(HL)` (R334) -/
def execRes2AtHl (s : State) : Result := resetBitHl 2 s

/-- `RES 2,A` (R333) -/
def execRes2A (s : State) : Result := resetBitReg 2 .a s

/-- `RES 3,B` (R333) -/
def execRes3B (s : State) : Result := resetBitReg 3 .b s

/-- `RES 3,C` (R333) -/
def execRes3C (s : State) : Result := resetBitReg 3 .c s

/-- `RES 3,D` (R333) -/
def execRes3D (s : State) : Result := resetBitReg 3 .d s

/-- `RES 3,E` (R333) -/
def execRes3E (s : State) : Result := resetBitReg 3 .e s

/-- `RES 3,H` (R333) -/
def execRes3H (s : State) : Result := resetBitReg 3 .h s

/-- `RES 3,L` (R333) -/
def execRes3L (s : State) : Result := resetBitReg 3 .l s

/-- `RES 3,(HL)` (R334) -/
def execRes3AtHl (s : State) : Result := resetBitHl 3 s

/-- `RES 3,A` (R333) -/
def execRes3A (s : State) : Result := resetBitReg 3 .a s

/-- `RES 4,B` (R333) -/
def execRes4B (s : State) : Result := resetBitReg 4 .b s

/-- `RES 4,C` (R333) -/
def execRes4C (s : State) : Result := resetBitReg 4 .c s

/-- `RES 4,D` (R333) -/
def execRes4D (s : State) : Result := resetBitReg 4 .d s

/-- `RES 4,E` (R333) -/
def execRes4E (s : State) : Result := resetBitReg 4 .e s

/-- `RES 4,H` (R333) -/
def execRes4H (s : State) : Result := resetBitReg 4 .h s

/-- `RES 4,L` (R333) -/
def execRes4L (s : State) : Result := resetBitReg 4 .l s

/-- `RES 4,(HL)` (R334) -/
def execRes4AtHl (s : State) : Result := resetBitHl 4 s

/-- `RES 4,A` (R333) -/
def execRes4A (s : State) : Result := resetBitReg 4 .a s

/-- `RES 5,B` (R333) -/
def execRes5B (s : State) : Result := resetBitReg 5 .b s

/-- `RES 5,C` (R333) -/
def execRes5C (s : State) : Result := resetBitReg 5 .c s

/-- `RES 5,D` (R333) -/
def execRes5D (s : State) : Result := resetBitReg 5 .d s

/-- `RES 5,E` (R333) -/
def execRes5E (s : State) : Result := resetBitReg 5 .e s

/-- `RES 5,H` (R333) -/
def execRes5H (s : State) : Result := resetBitReg 5 .h s

/-- `RES 5,L` (R333) -/
def execRes5L (s : State) : Result := resetBitReg 5 .l s

/-- `RES 5,(HL)` (R334) -/
def execRes5AtHl (s : State) : Result := resetBitHl 5 s

/-- `RES 5,A` (R333) -/
def execRes5A (s : State) : Result := resetBitReg 5 .a s

/-- `RES 6,B` (R333) -/
def execRes6B (s : State) : Result := resetBitReg 6 .b s

/-- `RES 6,C` (R333) -/
def execRes6C (s : State) : Result := resetBitReg 6 .c s

/-- `RES 6,D` (R333) -/
def execRes6D (s : State) : Result := resetBitReg 6 .d s

/-- `RES 6,E` (R333) -/
def execRes6E (s : State) : Result := resetBitReg 6 .e s

/-- `RES 6,H` (R333) -/
def execRes6H (s : State) : Result := resetBitReg 6 .h s

/-- `RES 6,L` (R333) -/
def execRes6L (s : State) : Result := resetBitReg 6 .l s

/-- `RES 6,(HL)` (R334) -/
def execRes6AtHl (s : State) : Result := resetBitHl 6 s

/-- `RES 6,A` (R333) -/
def execRes6A (s : State) : Result := resetBitReg 6 .a s

/-- `RES 7,B` (R333) -/
def execRes7B (s : State) : Result := resetBitReg 7 .b s

/-- `RES 7,C` (R333) -/
def execRes7C (s : State) : Result := resetBitReg 7 .c s

/-- `RES 7,D` (R333) -/
def execRes7D (s : State) : Result := resetBitReg 7 .d s

/-- `RES 7,E` (R333) -/
def execRes7E (s : State) : Result := resetBitReg 7 .e s

/-- `RES 7,H` (R333) -/
def execRes7H (s : State) : Result := resetBitReg 7 .h s

/-- `RES 7,L` (R333) -/
def execRes7L (s : State) : Result := resetBitReg 7 .l s

/-- `RES 7,(HL)` (R334) -/
def execRes7AtHl (s : State) : Result := resetBitHl 7 s

/-- `RES 7,A` (R333) -/
def execRes7A (s : State) : Result := resetBitReg 7 .a s

/-- `SET 0,B` (R335) -/
def execSet0B (s : State) : Result := setBitReg 0 .b s

/-- `SET 0,C` (R335) -/
def execSet0C (s : State) : Result := setBitReg 0 .c s

/-- `SET 0,D` (R335) -/
def execSet0D (s : State) : Result := setBitReg 0 .d s

/-- `SET 0,E` (R335) -/
def execSet0E (s : State) : Result := setBitReg 0 .e s

/-- `SET 0,H` (R335) -/
def execSet0H (s : State) : Result := setBitReg 0 .h s

/-- `SET 0,L` (R335) -/
def execSet0L (s : State) : Result := setBitReg 0 .l s

/-- `SET 0,(HL)` (R336) -/
def execSet0AtHl (s : State) : Result := setBitHl 0 s

/-- `SET 0,A` (R335) -/
def execSet0A (s : State) : Result := setBitReg 0 .a s

/-- `SET 1,B` (R335) -/
def execSet1B (s : State) : Result := setBitReg 1 .b s

/-- `SET 1,C` (R335) -/
def execSet1C (s : State) : Result := setBitReg 1 .c s

/-- `SET 1,D` (R335) -/
def execSet1D (s : State) : Result := setBitReg 1 .d s

/-- `SET 1,E` (R335) -/
def execSet1E (s : State) : Result := setBitReg 1 .e s

/-- `SET 1,H` (R335) -/
def execSet1H (s : State) : Result := setBitReg 1 .h s

/-- `SET 1,L` (R335) -/
def execSet1L (s : State) : Result := setBitReg 1 .l s

/-- `SET 1,(HL)` (R336) -/
def execSet1AtHl (s : State) : Result := setBitHl 1 s

/-- `SET 1,A` (R335) -/
def execSet1A (s : State) : Result := setBitReg 1 .a s

/-- `SET 2,B` (R335) -/
def execSet2B (s : State) : Result := setBitReg 2 .b s

/-- `SET 2,C` (R335) -/
def execSet2C (s : State) : Result := setBitReg 2 .c s

/-- `SET 2,D` (R335) -/
def execSet2D (s : State) : Result := setBitReg 2 .d s

/-- `SET 2,E` (R335) -/
def execSet2E (s : State) : Result := setBitReg 2 .e s

/-- `SET 2,H` (R335) -/
def execSet2H (s : State) : Result := setBitReg 2 .h s

/-- `SET 2,L` (R335) -/
def execSet2L (s : State) : Result := setBitReg 2 .l s

/-- `SET 2,(HL)` (R336) -/
def execSet2AtHl (s : State) : Result := setBitHl 2 s

/-- `SET 2,A` (R335) -/
def execSet2A (s : State) : Result := setBitReg 2 .a s

/-- `SET 3,B` (R335) -/
def execSet3B (s : State) : Result := setBitReg 3 .b s

/-- `SET 3,C` (R335) -/
def execSet3C (s : State) : Result := setBitReg 3 .c s

/-- `SET 3,D` (R335) -/
def execSet3D (s : State) : Result := setBitReg 3 .d s

/-- `SET 3,E` (R335) -/
def execSet3E (s : State) : Result := setBitReg 3 .e s

/-- `SET 3,H` (R335) -/
def execSet3H (s : State) : Result := setBitReg 3 .h s

/-- `SET 3,L` (R335) -/
def execSet3L (s : State) : Result := setBitReg 3 .l s

/-- `SET 3,(HL)` (R336) -/
def execSet3AtHl (s : State) : Result := setBitHl 3 s

/-- `SET 3,A` (R335) -/
def execSet3A (s : State) : Result := setBitReg 3 .a s

/-- `SET 4,B` (R335) -/
def execSet4B (s : State) : Result := setBitReg 4 .b s

/-- `SET 4,C` (R335) -/
def execSet4C (s : State) : Result := setBitReg 4 .c s

/-- `SET 4,D` (R335) -/
def execSet4D (s : State) : Result := setBitReg 4 .d s

/-- `SET 4,E` (R335) -/
def execSet4E (s : State) : Result := setBitReg 4 .e s

/-- `SET 4,H` (R335) -/
def execSet4H (s : State) : Result := setBitReg 4 .h s

/-- `SET 4,L` (R335) -/
def execSet4L (s : State) : Result := setBitReg 4 .l s

/-- `SET 4,(HL)` (R336) -/
def execSet4AtHl (s : State) : Result := setBitHl 4 s

/-- `SET 4,A` (R335) -/
def execSet4A (s : State) : Result := setBitReg 4 .a s

/-- `SET 5,B` (R335) -/
def execSet5B (s : State) : Result := setBitReg 5 .b s

/-- `SET 5,C` (R335) -/
def execSet5C (s : State) : Result := setBitReg 5 .c s

/-- `SET 5,D` (R335) -/
def execSet5D (s : State) : Result := setBitReg 5 .d s

/-- `SET 5,E` (R335) -/
def execSet5E (s : State) : Result := setBitReg 5 .e s

/-- `SET 5,H` (R335) -/
def execSet5H (s : State) : Result := setBitReg 5 .h s

/-- `SET 5,L` (R335) -/
def execSet5L (s : State) : Result := setBitReg 5 .l s

/-- `SET 5,(HL)` (R336) -/
def execSet5AtHl (s : State) : Result := setBitHl 5 s

/-- `SET 5,A` (R335) -/
def execSet5A (s : State) : Result := setBitReg 5 .a s

/-- `SET 6,B` (R335) -/
def execSet6B (s : State) : Result := setBitReg 6 .b s

/-- `SET 6,C` (R335) -/
def execSet6C (s : State) : Result := setBitReg 6 .c s

/-- `SET 6,D` (R335) -/
def execSet6D (s : State) : Result := setBitReg 6 .d s

/-- `SET 6,E` (R335) -/
def execSet6E (s : State) : Result := setBitReg 6 .e s

/-- `SET 6,H` (R335) -/
def execSet6H (s : State) : Result := setBitReg 6 .h s

/-- `SET 6,L` (R335) -/
def execSet6L (s : State) : Result := setBitReg 6 .l s

/-- `SET 6,(HL)` (R336) -/
def execSet6AtHl (s : State) : Result := setBitHl 6 s

/-- `SET 6,A` (R335) -/
def execSet6A (s : State) : Result := setBitReg 6 .a s

/-- `SET 7,B` (R335) -/
def execSet7B (s : State) : Result := setBitReg 7 .b s

/-- `SET 7,C` (R335) -/
def execSet7C (s : State) : Result := setBitReg 7 .c s

/-- `SET 7,D` (R335) -/
def execSet7D (s : State) : Result := setBitReg 7 .d s

/-- `SET 7,E` (R335) -/
def execSet7E (s : State) : Result := setBitReg 7 .e s

/-- `SET 7,H` (R335) -/
def execSet7H (s : State) : Result := setBitReg 7 .h s

/-- `SET 7,L` (R335) -/
def execSet7L (s : State) : Result := setBitReg 7 .l s

/-- `SET 7,(HL)` (R336) -/
def execSet7AtHl (s : State) : Result := setBitHl 7 s

/-- `SET 7,A` (R335) -/
def execSet7A (s : State) : Result := setBitReg 7 .a s

end Sys2Proof.Machine
end

