-- ==== Sys2Proof/Machine/System.lean ====
section
/-!
DEFINITION. Machine/System.lean: NOP, STOP, HALT, DI, EI and the eleven invalid opcodes (46_system.md R380 to R386).
-/

namespace Sys2Proof.Machine

/-- `NOP` (R380). -/
def nop (s : State) : Result := finish 4 s

/-- `STOP`, its second byte already discarded: no effect with STOP_BEHAVIOUR = nop2, the model declines to continue
with `refuse` (R381, 92_eei_decisions.md D10, Log 15). -/
def stop (s : State) : Result :=
  match s.env.stop with
  | .nop2 => finish 4 s
  | .refuse => .refused .stopNotSpecified

/-- `HALT`: the halt bug with IME = 0 and an interrupt pending, else the CPU halts (R382). -/
def halt (s : State) : Result :=
  if s.cpu.ime = false ∧ s.ic.pending ≠ 0 then finish 4 { s with cpu := { s.cpu with haltBug := true } }
  else finish 4 { s with cpu := { s.cpu with halted := true } }

/-- `DI`: IME and a pending EI delay are cleared (R383). -/
def disableInterrupts (s : State) : Result := finish 4 { s with cpu := { s.cpu with ime := false, imeDelay := 0 } }

/-- `EI`: the delay is armed to 2 unless it already runs; IME is not written (R384). -/
def enableInterrupts (s : State) : Result :=
  finish 4 { s with cpu := { s.cpu with imeDelay := if s.cpu.imeDelay = 0 then 2 else s.cpu.imeDelay } }

/-! ### One meaning per instruction -/

/-- `NOP` (R380) -/
def execNop (s : State) : Result := nop s

/-- `STOP` (R381) -/
def execStop (_d8 : Byte) (s : State) : Result := stop s

/-- `HALT` (R382) -/
def execHalt (s : State) : Result := halt s

/-- `ILLEGAL_D3` (R386) -/
def execIllegalD3 (s : State) : Result := raiseIllegal 0xD3 s

/-- `ILLEGAL_DB` (R386) -/
def execIllegalDB (s : State) : Result := raiseIllegal 0xDB s

/-- `ILLEGAL_DD` (R386) -/
def execIllegalDD (s : State) : Result := raiseIllegal 0xDD s

/-- `ILLEGAL_E3` (R386) -/
def execIllegalE3 (s : State) : Result := raiseIllegal 0xE3 s

/-- `ILLEGAL_E4` (R386) -/
def execIllegalE4 (s : State) : Result := raiseIllegal 0xE4 s

/-- `ILLEGAL_EB` (R386) -/
def execIllegalEB (s : State) : Result := raiseIllegal 0xEB s

/-- `ILLEGAL_EC` (R386) -/
def execIllegalEC (s : State) : Result := raiseIllegal 0xEC s

/-- `ILLEGAL_ED` (R386) -/
def execIllegalED (s : State) : Result := raiseIllegal 0xED s

/-- `DI` (R383) -/
def execDi (s : State) : Result := disableInterrupts s

/-- `ILLEGAL_F4` (R386) -/
def execIllegalF4 (s : State) : Result := raiseIllegal 0xF4 s

/-- `EI` (R384) -/
def execEi (s : State) : Result := enableInterrupts s

/-- `ILLEGAL_FC` (R386) -/
def execIllegalFC (s : State) : Result := raiseIllegal 0xFC s

/-- `ILLEGAL_FD` (R386) -/
def execIllegalFD (s : State) : Result := raiseIllegal 0xFD s

end Sys2Proof.Machine
end

