-- ==== Sys2Proof/Machine/CpuStep.lean ====
section
/-!
DEFINITION. Machine/CpuStep.lean: the CPU step (60_exceptions.md R420 to R425): the EI delay, the interrupt check, the
idle step, and fetch, decode, execute.
-/

namespace Sys2Proof.Machine

/-- Part (a): a running EI delay is lowered, and IME is set when it reaches 0 (60_exceptions.md R421). -/
def State.delayedEnable (s : State) : State :=
  if s.cpu.imeDelay = 0 then s
  else
    { s with
      cpu := { s.cpu with imeDelay := s.cpu.imeDelay - 1, ime := s.cpu.ime || s.cpu.imeDelay - 1 == 0 } }

/-- Part (b), wake-up: a pending interrupt ends the halt whatever IME is (60_exceptions.md R422). -/
def State.wake (s : State) : State :=
  if s.ic.pending = 0 then s else { s with cpu := { s.cpu with halted := false } }

/-- Whether part (b) dispatches (60_exceptions.md R423). -/
def State.dispatches (s : State) : Bool := s.ic.pending != 0 && s.cpu.ime

/-- PC after the opcode fetch: not advanced under the halt bug (60_exceptions.md R424, R425). -/
def State.pcAfterOpcode (s : State) : Word := if s.cpu.haltBug then s.cpu.pc else s.cpu.pc + 1

/-- The entry of the opcode byte at PC (30_encoding.md R166). -/
def State.fetchedEntry (s : State) : Entry := opEntry (s.busRead s.cpu.pc)

/-- The instruction the CPU fetches: the opcode byte at PC, then the bytes from `pcAfterOpcode` on (60_exceptions.md
R424, R425). Fetches are reads without side effects, so all can be made before the handler runs (20_memory.md R93,
Log 10). -/
def State.fetchedInstr (s : State) : Instr :=
  s.fetchedEntry.instr (s.busRead s.pcAfterOpcode) (s.busRead (s.pcAfterOpcode + 1))

/-- PC past every byte of the instruction, the halt bug consumed (00_scope.md R16, 60_exceptions.md R424). -/
def State.afterFetch (s : State) : State :=
  { s with
    cpu :=
      { s.cpu with pc := s.pcAfterOpcode + BitVec.ofNat 16 (s.fetchedEntry.length - 1), haltBug := false } }

/-- The state in which an invalid opcode is raised, in a step that began in `before`: PC past the byte, or at it under the
halt bug, ime_delay as part (a) left it, and every other piece of state as before the step, so that IME, halted and
halt_bug are those of `before` (60_exceptions.md R401, 46_system.md R386, Log 27). -/
def State.raiseStart (s before : State) : State :=
  { s.afterFetch with
    cpu :=
      { s.afterFetch.cpu with
        ime := before.cpu.ime, halted := before.cpu.halted, haltBug := before.cpu.haltBug } }

/-- The state in which the handler of the fetched instruction starts, in a step that began in `before`. -/
def State.handlerStart (s before : State) : State :=
  if s.fetchedInstr.invalidOpcode?.isSome then s.raiseStart before else s.afterFetch

/-- Part (d), in a step that began in `before` (60_exceptions.md R424). -/
def State.fetchExecute (s before : State) : Result := exec s.fetchedInstr (s.handlerStart before)

/-- Part (c): an idle step of a halted CPU costs 4 cycles and fetches nothing (60_exceptions.md R420). -/
def State.idle (s : State) : Result := finish 4 s

/-- Parts (b) to (d), in a step that began in `before`. -/
def State.serve (s before : State) : Result :=
  if s.dispatches then finish 20 (s.wake.takeInterrupt (lowestPending s.ic.pending))
  else if s.wake.cpu.halted then s.wake.idle
  else s.wake.fetchExecute before

/-- `CpuStep()` (60_exceptions.md R420); the count it returns is the state's `cycles`. -/
def State.cpuStep (s : State) : Result := s.delayedEnable.serve s

end Sys2Proof.Machine
end

