-- ==== Sys2Proof/Machine/Scheduler.lean ====
section
/-!
DEFINITION. Machine/Scheduler.lean: the scheduler step (60_exceptions.md R440 to R442) and the host's turn between two
of them (20_memory.md R102).
-/

namespace Sys2Proof.Machine

/-- One host action (20_memory.md R102): JoypadRead changed, seconds passed, the Joypad interrupt requested
(`HostIrq`, 60_exceptions.md R411). -/
def State.hostAct (s : State) (h : HostAction) : State :=
  { s with
    env := { s.env with joypad := h.joypad.getD s.env.joypad, rtcNow := s.env.rtcNow + h.seconds }
    ic := s.ic.requestIf h.requestJoypad 4 }

/-- The host's turn: the next of its actions, if there is one (20_memory.md R102, Log 2). -/
def State.hostTurn (s : State) : State :=
  match s.env.actions with
  | [] => s
  | h :: rest => State.hostAct { s with env := { s.env with actions := rest } } h

/-- `TimerTick(c); PpuStep(c)` with the count the CPU step returned; neither when it returned none (60_exceptions.md
R440, R401). -/
def State.tickDevices (s : State) : State :=
  match s.cycles with
  | none => s
  | some c => (s.timerTick c).ppuStep c

/-- What follows a next state. -/
def Result.andThen (r : Result) (f : State → State) : Result :=
  match r with
  | .next t => .next (f t)
  | .fault e => .fault e
  | .refused e => .refused e

/-- `SchedulerStep()` (60_exceptions.md R440). -/
def State.schedulerStep (s : State) : Result := Result.andThen s.cpuStep State.tickDevices

end Sys2Proof.Machine
end

