-- ==== Sys2Proof/Machine/Placement.lean ====
section
/-!
DEFINITION. Machine/Placement.lean: how a program comes to stand where the machine fetches it from, outside the
machine's own steps (Log 7): the cell behind an address changed as the loader of a cartridge image, a boot image or a
test would change it, and the CPU made ready to fetch.
-/

namespace Sys2Proof.Machine

/-- Whether an address is backed by a cell that `placeByte` can change. -/
def State.placeable (s : State) (a : Word) : Bool :=
  s.bootCovers a ||
  match target a with
  | .rom _ => true
  | .vram _ => true
  | .ext i =>
    match s.cart.extCell i with
    | .cram _ => true
    | _ => false
  | .wram _ => true
  | .oam _ => true
  | .hram _ => true
  | .io _ => false
  | .unmapped => false

/-- A byte of CART_IMAGE replaced; the image is made long enough to hold it. -/
def Cart.placeImage (k : Cart) (i : Nat) (v : Byte) : Cart :=
  { k with image := Cells.write k.image i v, imageSize := max k.imageSize (i + 1) }

/-- The cell that a read of `a` reads, replaced; nothing where there is none. -/
def State.placeByte (s : State) (a : Word) (v : Byte) : State :=
  if s.bootCovers a then { s with env := { s.env with bootImage := Cells.write s.env.bootImage a.toNat v } }
  else
    match target a with
    | .rom i => { s with cart := s.cart.placeImage (s.cart.romIndex i) v }
    | .io _ => s
    | t => s.writeTarget v t

/-- The bytes of a list placed at ascending addresses. -/
def State.placeBytes (s : State) (a : Word) : List Byte → State
  | [] => s
  | v :: vs => (s.placeByte a v).placeBytes (a + 1) vs

/-- Where an instruction can be placed for the next fetch: at PC, or at the start of work RAM when PC's three bytes
are not all backed by cells. -/
def State.placementPc (s : State) : Word :=
  if s.placeable s.cpu.pc && s.placeable (s.cpu.pc + 1) && s.placeable (s.cpu.pc + 2) then s.cpu.pc else 0xC000

/-- The machine made ready to fetch: not FATAL, not halted, no halt bug, no host action at the coming boundary, and IME
and its delay cleared when an interrupt is pending, which would be dispatched instead (Log 20). -/
def State.readyToFetch (s : State) : State :=
  let quiet := s.ic.pending == 0
  { s with
    cpu :=
      { s.cpu with
        pc := s.placementPc, fatal := false, halted := false, haltBug := false
        ime := s.cpu.ime && quiet, imeDelay := if quiet then s.cpu.imeDelay else 0 }
    env := { s.env with actions := [] } }

end Sys2Proof.Machine
end

