-- ==== Sys2Proof/Machine/Step.lean ====
section
/-!
DEFINITION. Machine/Step.lean: one step of the machine, and the placement of an instruction where the next step fetches
it.
-/

namespace Sys2Proof.Machine

/-- One step: the host's turn, then the scheduler step (60_exceptions.md R440, 20_memory.md R102). A FATAL machine has no
next state (R401). -/
def step (s : State) : Host.Outcome State Fault Refusal :=
  if s.cpu.fatal then .fault .fatalStuck else s.hostTurn.schedulerStep

/-- The instruction of a table word stored where `step` fetches its next instruction (Log 7, Log 20). -/
def State.withFetchWord (s : State) (nbits w : Nat) : State :=
  s.readyToFetch.placeBytes s.placementPc ((tableBytes nbits w).take 3)

end Sys2Proof.Machine
end

