-- ==== Sys2Proof/Machine/Families.lean ====
section
/-!
DEFINITION. Machine/Families.lean: the instructions by the fields of their encodings (30_encoding.md R165, R170, R171),
so that a rule about a whole family is stated once; the index of each operand in the tables of R165; the bus writes an
instruction makes; and which addresses a bus write can change the reading of.
-/

namespace Sys2Proof

open Machine (Reg8 Pair StackPair Cond AluOp RotOp State)

/-! ### The index tables of 30_encoding.md R165 -/

/-- `i` of `r8[i]`; 6 is `(HL)`. -/
def Machine.Reg8.index : Reg8 → Byte
  | .b => 0
  | .c => 1
  | .d => 2
  | .e => 3
  | .h => 4
  | .l => 5
  | .a => 7

/-- `i` of `r16[i]`. -/
def Machine.Pair.index : Pair → Byte
  | .bc => 0
  | .de => 1
  | .hl => 2
  | .sp => 3

/-- `i` of `r16stk[i]`. -/
def Machine.StackPair.index : StackPair → Byte
  | .bc => 0
  | .de => 1
  | .hl => 2
  | .af => 3

/-- `i` of `cc[i]`. -/
def Machine.Cond.index : Cond → Byte
  | .nz => 0
  | .z => 1
  | .nc => 2
  | .c => 3

/-- `i` of `alu[i]`. -/
def Machine.AluOp.index : AluOp → Byte
  | .add => 0
  | .adc => 1
  | .sub => 2
  | .sbc => 3
  | .and => 4
  | .xor => 5
  | .or => 6
  | .cp => 7

/-- `i` of `rot[i]`. -/
def Machine.RotOp.index : RotOp → Byte
  | .rlc => 0
  | .rrc => 1
  | .rl => 2
  | .rr => 3
  | .sla => 4
  | .sra => 5
  | .swap => 6
  | .srl => 7

/-- The `b`-th of eight instructions. -/
def pick8 (b : Fin 8) (i0 i1 i2 i3 i4 i5 i6 i7 : Instr) : Instr :=
  match b.val with
  | 0 => i0
  | 1 => i1
  | 2 => i2
  | 3 => i3
  | 4 => i4
  | 5 => i5
  | 6 => i6
  | _ => i7

/-! ### The families -/

/-- `LD r,r'` (40_load8.md R200). -/
def Instr.ldRegReg : Reg8 → Reg8 → Instr
  | .b, .b => .ldBB
  | .b, .c => .ldBC
  | .b, .d => .ldBD
  | .b, .e => .ldBE
  | .b, .h => .ldBH
  | .b, .l => .ldBL
  | .b, .a => .ldBA
  | .c, .b => .ldCB
  | .c, .c => .ldCC
  | .c, .d => .ldCD
  | .c, .e => .ldCE
  | .c, .h => .ldCH
  | .c, .l => .ldCL
  | .c, .a => .ldCA
  | .d, .b => .ldDB
  | .d, .c => .ldDC
  | .d, .d => .ldDD
  | .d, .e => .ldDE
  | .d, .h => .ldDH
  | .d, .l => .ldDL
  | .d, .a => .ldDA
  | .e, .b => .ldEB
  | .e, .c => .ldEC
  | .e, .d => .ldED
  | .e, .e => .ldEE
  | .e, .h => .ldEH
  | .e, .l => .ldEL
  | .e, .a => .ldEA
  | .h, .b => .ldHB
  | .h, .c => .ldHC
  | .h, .d => .ldHD
  | .h, .e => .ldHE
  | .h, .h => .ldHH
  | .h, .l => .ldHL
  | .h, .a => .ldHA
  | .l, .b => .ldLB
  | .l, .c => .ldLC
  | .l, .d => .ldLD
  | .l, .e => .ldLE
  | .l, .h => .ldLH
  | .l, .l => .ldLL
  | .l, .a => .ldLA
  | .a, .b => .ldAB
  | .a, .c => .ldAC
  | .a, .d => .ldAD
  | .a, .e => .ldAE
  | .a, .h => .ldAH
  | .a, .l => .ldAL
  | .a, .a => .ldAA

/-- `LD r,d8` (R201). -/
def Instr.ldRegImm : Reg8 → Byte → Instr
  | .b, v => .ldBD8 v
  | .c, v => .ldCD8 v
  | .d, v => .ldDD8 v
  | .e, v => .ldED8 v
  | .h, v => .ldHD8 v
  | .l, v => .ldLD8 v
  | .a, v => .ldAD8 v

/-- `LD r,(HL)` (R202). -/
def Instr.ldRegHl : Reg8 → Instr
  | .b => .ldBAtHl
  | .c => .ldCAtHl
  | .d => .ldDAtHl
  | .e => .ldEAtHl
  | .h => .ldHAtHl
  | .l => .ldLAtHl
  | .a => .ldAAtHl

/-- `LD (HL),r` (R203). -/
def Instr.ldHlReg : Reg8 → Instr
  | .b => .ldAtHlB
  | .c => .ldAtHlC
  | .d => .ldAtHlD
  | .e => .ldAtHlE
  | .h => .ldAtHlH
  | .l => .ldAtHlL
  | .a => .ldAtHlA

/-- `LD rr,d16` (41_load16.md R230). -/
def Instr.ldPairImm : Pair → Word → Instr
  | .bc, v => .ldBcD16 v
  | .de, v => .ldDeD16 v
  | .hl, v => .ldHlD16 v
  | .sp, v => .ldSpD16 v

/-- `PUSH rr` (R234). -/
def Instr.push : StackPair → Instr
  | .bc => .pushBc
  | .de => .pushDe
  | .hl => .pushHl
  | .af => .pushAf

/-- `POP rr` (R235, R236). -/
def Instr.pop : StackPair → Instr
  | .bc => .popBc
  | .de => .popDe
  | .hl => .popHl
  | .af => .popAf

/-- An accumulator operation on a register (42_alu8.md R253 to R274). -/
def Instr.aluReg : AluOp → Reg8 → Instr
  | .add, .b => .addAB
  | .add, .c => .addAC
  | .add, .d => .addAD
  | .add, .e => .addAE
  | .add, .h => .addAH
  | .add, .l => .addAL
  | .add, .a => .addAA
  | .adc, .b => .adcAB
  | .adc, .c => .adcAC
  | .adc, .d => .adcAD
  | .adc, .e => .adcAE
  | .adc, .h => .adcAH
  | .adc, .l => .adcAL
  | .adc, .a => .adcAA
  | .sub, .b => .subB
  | .sub, .c => .subC
  | .sub, .d => .subD
  | .sub, .e => .subE
  | .sub, .h => .subH
  | .sub, .l => .subL
  | .sub, .a => .subA
  | .sbc, .b => .sbcAB
  | .sbc, .c => .sbcAC
  | .sbc, .d => .sbcAD
  | .sbc, .e => .sbcAE
  | .sbc, .h => .sbcAH
  | .sbc, .l => .sbcAL
  | .sbc, .a => .sbcAA
  | .and, .b => .andB
  | .and, .c => .andC
  | .and, .d => .andD
  | .and, .e => .andE
  | .and, .h => .andH
  | .and, .l => .andL
  | .and, .a => .andA
  | .xor, .b => .xorB
  | .xor, .c => .xorC
  | .xor, .d => .xorD
  | .xor, .e => .xorE
  | .xor, .h => .xorH
  | .xor, .l => .xorL
  | .xor, .a => .xorA
  | .or, .b => .orB
  | .or, .c => .orC
  | .or, .d => .orD
  | .or, .e => .orE
  | .or, .h => .orH
  | .or, .l => .orL
  | .or, .a => .orA
  | .cp, .b => .cpB
  | .cp, .c => .cpC
  | .cp, .d => .cpD
  | .cp, .e => .cpE
  | .cp, .h => .cpH
  | .cp, .l => .cpL
  | .cp, .a => .cpA

/-- An accumulator operation on the byte at HL. -/
def Instr.aluHl : AluOp → Instr
  | .add => .addAAtHl
  | .adc => .adcAAtHl
  | .sub => .subAtHl
  | .sbc => .sbcAAtHl
  | .and => .andAtHl
  | .xor => .xorAtHl
  | .or => .orAtHl
  | .cp => .cpAtHl

/-- An accumulator operation on an immediate. -/
def Instr.aluImm : AluOp → Byte → Instr
  | .add, v => .addAD8 v
  | .adc, v => .adcAD8 v
  | .sub, v => .subD8 v
  | .sbc, v => .sbcAD8 v
  | .and, v => .andD8 v
  | .xor, v => .xorD8 v
  | .or, v => .orD8 v
  | .cp, v => .cpD8 v

/-- `INC r` (R277). -/
def Instr.incReg : Reg8 → Instr
  | .b => .incB
  | .c => .incC
  | .d => .incD
  | .e => .incE
  | .h => .incH
  | .l => .incL
  | .a => .incA

/-- `DEC r` (R279). -/
def Instr.decReg : Reg8 → Instr
  | .b => .decB
  | .c => .decC
  | .d => .decD
  | .e => .decE
  | .h => .decH
  | .l => .decL
  | .a => .decA

/-- `INC rr` (43_alu16.md R301). -/
def Instr.incPair : Pair → Instr
  | .bc => .incBc
  | .de => .incDe
  | .hl => .incHl
  | .sp => .incSp

/-- `DEC rr` (R302). -/
def Instr.decPair : Pair → Instr
  | .bc => .decBc
  | .de => .decDe
  | .hl => .decHl
  | .sp => .decSp

/-- `ADD HL,rr` (R300). -/
def Instr.addHl : Pair → Instr
  | .bc => .addHlBc
  | .de => .addHlDe
  | .hl => .addHlHl
  | .sp => .addHlSp

/-- A prefixed rotate or shift of a register (44_rotate_bit.md R315 to R329). -/
def Instr.rotReg : RotOp → Reg8 → Instr
  | .rlc, .b => .rlcB
  | .rlc, .c => .rlcC
  | .rlc, .d => .rlcD
  | .rlc, .e => .rlcE
  | .rlc, .h => .rlcH
  | .rlc, .l => .rlcL
  | .rlc, .a => .rlcA
  | .rrc, .b => .rrcB
  | .rrc, .c => .rrcC
  | .rrc, .d => .rrcD
  | .rrc, .e => .rrcE
  | .rrc, .h => .rrcH
  | .rrc, .l => .rrcL
  | .rrc, .a => .rrcA
  | .rl, .b => .rlB
  | .rl, .c => .rlC
  | .rl, .d => .rlD
  | .rl, .e => .rlE
  | .rl, .h => .rlH
  | .rl, .l => .rlL
  | .rl, .a => .rlA
  | .rr, .b => .rrB
  | .rr, .c => .rrC
  | .rr, .d => .rrD
  | .rr, .e => .rrE
  | .rr, .h => .rrH
  | .rr, .l => .rrL
  | .rr, .a => .rrA
  | .sla, .b => .slaB
  | .sla, .c => .slaC
  | .sla, .d => .slaD
  | .sla, .e => .slaE
  | .sla, .h => .slaH
  | .sla, .l => .slaL
  | .sla, .a => .slaA
  | .sra, .b => .sraB
  | .sra, .c => .sraC
  | .sra, .d => .sraD
  | .sra, .e => .sraE
  | .sra, .h => .sraH
  | .sra, .l => .sraL
  | .sra, .a => .sraA
  | .swap, .b => .swapB
  | .swap, .c => .swapC
  | .swap, .d => .swapD
  | .swap, .e => .swapE
  | .swap, .h => .swapH
  | .swap, .l => .swapL
  | .swap, .a => .swapA
  | .srl, .b => .srlB
  | .srl, .c => .srlC
  | .srl, .d => .srlD
  | .srl, .e => .srlE
  | .srl, .h => .srlH
  | .srl, .l => .srlL
  | .srl, .a => .srlA

/-- A prefixed rotate or shift of the byte at HL (R316 to R330). -/
def Instr.rotHl : RotOp → Instr
  | .rlc => .rlcAtHl
  | .rrc => .rrcAtHl
  | .rl => .rlAtHl
  | .rr => .rrAtHl
  | .sla => .slaAtHl
  | .sra => .sraAtHl
  | .swap => .swapAtHl
  | .srl => .srlAtHl

/-- `BIT b,r` (R331). -/
def Instr.bitReg (b : Fin 8) : Reg8 → Instr
  | .b => pick8 b .bit0B .bit1B .bit2B .bit3B .bit4B .bit5B .bit6B .bit7B
  | .c => pick8 b .bit0C .bit1C .bit2C .bit3C .bit4C .bit5C .bit6C .bit7C
  | .d => pick8 b .bit0D .bit1D .bit2D .bit3D .bit4D .bit5D .bit6D .bit7D
  | .e => pick8 b .bit0E .bit1E .bit2E .bit3E .bit4E .bit5E .bit6E .bit7E
  | .h => pick8 b .bit0H .bit1H .bit2H .bit3H .bit4H .bit5H .bit6H .bit7H
  | .l => pick8 b .bit0L .bit1L .bit2L .bit3L .bit4L .bit5L .bit6L .bit7L
  | .a => pick8 b .bit0A .bit1A .bit2A .bit3A .bit4A .bit5A .bit6A .bit7A

/-- `RES b,r` (R333). -/
def Instr.resReg (b : Fin 8) : Reg8 → Instr
  | .b => pick8 b .res0B .res1B .res2B .res3B .res4B .res5B .res6B .res7B
  | .c => pick8 b .res0C .res1C .res2C .res3C .res4C .res5C .res6C .res7C
  | .d => pick8 b .res0D .res1D .res2D .res3D .res4D .res5D .res6D .res7D
  | .e => pick8 b .res0E .res1E .res2E .res3E .res4E .res5E .res6E .res7E
  | .h => pick8 b .res0H .res1H .res2H .res3H .res4H .res5H .res6H .res7H
  | .l => pick8 b .res0L .res1L .res2L .res3L .res4L .res5L .res6L .res7L
  | .a => pick8 b .res0A .res1A .res2A .res3A .res4A .res5A .res6A .res7A

/-- `SET b,r` (R335). -/
def Instr.setReg (b : Fin 8) : Reg8 → Instr
  | .b => pick8 b .set0B .set1B .set2B .set3B .set4B .set5B .set6B .set7B
  | .c => pick8 b .set0C .set1C .set2C .set3C .set4C .set5C .set6C .set7C
  | .d => pick8 b .set0D .set1D .set2D .set3D .set4D .set5D .set6D .set7D
  | .e => pick8 b .set0E .set1E .set2E .set3E .set4E .set5E .set6E .set7E
  | .h => pick8 b .set0H .set1H .set2H .set3H .set4H .set5H .set6H .set7H
  | .l => pick8 b .set0L .set1L .set2L .set3L .set4L .set5L .set6L .set7L
  | .a => pick8 b .set0A .set1A .set2A .set3A .set4A .set5A .set6A .set7A

/-- `BIT b,(HL)` (R332). -/
def Instr.bitHl (b : Fin 8) : Instr :=
  pick8 b .bit0AtHl .bit1AtHl .bit2AtHl .bit3AtHl .bit4AtHl .bit5AtHl .bit6AtHl .bit7AtHl

/-- `RES b,(HL)` (R334). -/
def Instr.resHl (b : Fin 8) : Instr :=
  pick8 b .res0AtHl .res1AtHl .res2AtHl .res3AtHl .res4AtHl .res5AtHl .res6AtHl .res7AtHl

/-- `SET b,(HL)` (R336). -/
def Instr.setHl (b : Fin 8) : Instr :=
  pick8 b .set0AtHl .set1AtHl .set2AtHl .set3AtHl .set4AtHl .set5AtHl .set6AtHl .set7AtHl

/-- `JP cc,a16` (45_control.md R352). -/
def Instr.jpIf : Cond → Word → Instr
  | .nz, v => .jpNzA16 v
  | .z, v => .jpZA16 v
  | .nc, v => .jpNcA16 v
  | .c, v => .jpCA16 v

/-- `JR cc,e8` (R355). -/
def Instr.jrIf : Cond → Byte → Instr
  | .nz, v => .jrNzE8 v
  | .z, v => .jrZE8 v
  | .nc, v => .jrNcE8 v
  | .c, v => .jrCE8 v

/-- `CALL cc,a16` (R357). -/
def Instr.callIf : Cond → Word → Instr
  | .nz, v => .callNzA16 v
  | .z, v => .callZA16 v
  | .nc, v => .callNcA16 v
  | .c, v => .callCA16 v

/-- `RET cc` (R359). -/
def Instr.retIf : Cond → Instr
  | .nz => .retNz
  | .z => .retZ
  | .nc => .retNc
  | .c => .retC

/-- `RST n`, `n = 8 x y` (R361). -/
def Instr.rst (y : Fin 8) : Instr :=
  pick8 y .rst00 .rst08 .rst10 .rst18 .rst20 .rst28 .rst30 .rst38

/-! ### Bus writes -/

/-- The two writes of `Push16(v)` with the stack pointer at `sp`, the high byte first (00_scope.md R15). -/
def pushWrites (sp v : Word) : List (Word × Byte) := [(sp - 1, v.hi), (sp - 2, v.lo)]

/-- The bus writes an instruction makes, in order: the address its operand form gives and the byte its rule stores
there. A conditional CALL writes only when it is taken (45_control.md R357). An instruction not listed writes nothing. -/
def Instr.stores (s : State) : Instr → List (Word × Byte)
  | .ldAtHlB => [(s.cpu.hl, s.cpu.b)]
  | .ldAtHlC => [(s.cpu.hl, s.cpu.c)]
  | .ldAtHlD => [(s.cpu.hl, s.cpu.d)]
  | .ldAtHlE => [(s.cpu.hl, s.cpu.e)]
  | .ldAtHlH => [(s.cpu.hl, s.cpu.h)]
  | .ldAtHlL => [(s.cpu.hl, s.cpu.l)]
  | .ldAtHlA => [(s.cpu.hl, s.cpu.a)]
  | .ldAtHlD8 v => [(s.cpu.hl, v)]
  | .ldAtBcA => [(s.cpu.bc, s.cpu.a)]
  | .ldAtDeA => [(s.cpu.de, s.cpu.a)]
  | .ldAtA16A a => [(a, s.cpu.a)]
  | .ldhAtCA => [(0xFF00 + s.cpu.c.setWidth 16, s.cpu.a)]
  | .ldhAtA8A n => [(0xFF00 + n.setWidth 16, s.cpu.a)]
  | .ldAtHlIncA => [(s.cpu.hl, s.cpu.a)]
  | .ldAtHlDecA => [(s.cpu.hl, s.cpu.a)]
  | .ldAtA16Sp a => [(a, s.cpu.sp.lo), (a + 1, s.cpu.sp.hi)]
  | .pushBc => pushWrites s.cpu.sp s.cpu.bc
  | .pushDe => pushWrites s.cpu.sp s.cpu.de
  | .pushHl => pushWrites s.cpu.sp s.cpu.hl
  | .pushAf => pushWrites s.cpu.sp s.cpu.af
  | .callA16 _ => pushWrites s.cpu.sp s.cpu.pc
  | .callNzA16 _ => if s.cpu.f.z = false then pushWrites s.cpu.sp s.cpu.pc else []
  | .callZA16 _ => if s.cpu.f.z = true then pushWrites s.cpu.sp s.cpu.pc else []
  | .callNcA16 _ => if s.cpu.f.c = false then pushWrites s.cpu.sp s.cpu.pc else []
  | .callCA16 _ => if s.cpu.f.c = true then pushWrites s.cpu.sp s.cpu.pc else []
  | .rst00 => pushWrites s.cpu.sp s.cpu.pc
  | .rst08 => pushWrites s.cpu.sp s.cpu.pc
  | .rst10 => pushWrites s.cpu.sp s.cpu.pc
  | .rst18 => pushWrites s.cpu.sp s.cpu.pc
  | .rst20 => pushWrites s.cpu.sp s.cpu.pc
  | .rst28 => pushWrites s.cpu.sp s.cpu.pc
  | .rst30 => pushWrites s.cpu.sp s.cpu.pc
  | .rst38 => pushWrites s.cpu.sp s.cpu.pc
  | .incAtHl => [(s.cpu.hl, s.busRead s.cpu.hl + 1)]
  | .decAtHl => [(s.cpu.hl, s.busRead s.cpu.hl - 1)]
  | .rlcAtHl => [(s.cpu.hl, (Machine.rotResult .rlc (s.busRead s.cpu.hl) s.cpu.f.c).1)]
  | .rrcAtHl => [(s.cpu.hl, (Machine.rotResult .rrc (s.busRead s.cpu.hl) s.cpu.f.c).1)]
  | .rlAtHl => [(s.cpu.hl, (Machine.rotResult .rl (s.busRead s.cpu.hl) s.cpu.f.c).1)]
  | .rrAtHl => [(s.cpu.hl, (Machine.rotResult .rr (s.busRead s.cpu.hl) s.cpu.f.c).1)]
  | .slaAtHl => [(s.cpu.hl, (Machine.rotResult .sla (s.busRead s.cpu.hl) s.cpu.f.c).1)]
  | .sraAtHl => [(s.cpu.hl, (Machine.rotResult .sra (s.busRead s.cpu.hl) s.cpu.f.c).1)]
  | .swapAtHl => [(s.cpu.hl, (Machine.rotResult .swap (s.busRead s.cpu.hl) s.cpu.f.c).1)]
  | .srlAtHl => [(s.cpu.hl, (Machine.rotResult .srl (s.busRead s.cpu.hl) s.cpu.f.c).1)]
  | .res0AtHl => [(s.cpu.hl, s.busRead s.cpu.hl &&& 0xFE)]
  | .res1AtHl => [(s.cpu.hl, s.busRead s.cpu.hl &&& 0xFD)]
  | .res2AtHl => [(s.cpu.hl, s.busRead s.cpu.hl &&& 0xFB)]
  | .res3AtHl => [(s.cpu.hl, s.busRead s.cpu.hl &&& 0xF7)]
  | .res4AtHl => [(s.cpu.hl, s.busRead s.cpu.hl &&& 0xEF)]
  | .res5AtHl => [(s.cpu.hl, s.busRead s.cpu.hl &&& 0xDF)]
  | .res6AtHl => [(s.cpu.hl, s.busRead s.cpu.hl &&& 0xBF)]
  | .res7AtHl => [(s.cpu.hl, s.busRead s.cpu.hl &&& 0x7F)]
  | .set0AtHl => [(s.cpu.hl, s.busRead s.cpu.hl ||| 0x01)]
  | .set1AtHl => [(s.cpu.hl, s.busRead s.cpu.hl ||| 0x02)]
  | .set2AtHl => [(s.cpu.hl, s.busRead s.cpu.hl ||| 0x04)]
  | .set3AtHl => [(s.cpu.hl, s.busRead s.cpu.hl ||| 0x08)]
  | .set4AtHl => [(s.cpu.hl, s.busRead s.cpu.hl ||| 0x10)]
  | .set5AtHl => [(s.cpu.hl, s.busRead s.cpu.hl ||| 0x20)]
  | .set6AtHl => [(s.cpu.hl, s.busRead s.cpu.hl ||| 0x40)]
  | .set7AtHl => [(s.cpu.hl, s.busRead s.cpu.hl ||| 0x80)]
  | _ => []

namespace Machine

/-- Bus writes made one after another. -/
def State.busWrites (s : State) (l : List (Word × Byte)) : State := l.foldl (fun t w => t.busWrite w.1 w.2) s

/-- Whether an address is backed by a byte of VRAM, OAM, WRAM, HRAM or cartridge RAM (20_memory.md R66). -/
def State.ramAt (s : State) (a : Word) : Bool :=
  match target a with
  | .vram _ => true
  | .oam _ => true
  | .wram _ => true
  | .hram _ => true
  | .ext i =>
    match s.cart.extCell i with
    | .cram _ => true
    | _ => false
  | _ => false

/-- Whether two targets of the address decode are the same byte of RAM. Cartridge RAM smaller than its window shows each
byte several times (21_cartridge.md R117, R125, R137). -/
def State.sameCell (s : State) : Target → Target → Bool
  | .vram i, .vram j => i == j
  | .oam i, .oam j => i == j
  | .wram i, .wram j => i == j
  | .hram i, .hram j => i == j
  | .ext i, .ext j =>
    match s.cart.extCell i, s.cart.extCell j with
    | .cram m, .cram n => m == n
    | _, _ => false
  | _, _ => false

/-- Whether two addresses are backed by the same byte of RAM, the echo's among them (20_memory.md R77). -/
def State.sameByte (s : State) (a x : Word) : Bool := s.sameCell (target a) (target x)

/-- Whether a bus write to `a` can change what a bus read of `x` gives: the byte written, under each of its addresses;
for a register its own address, and beside it TIMA for a DIV write (60_exceptions.md R435), OAM for a DMA write
(20_memory.md R90), the overlaid page for the latch (R88); for a bank-controller write the switchable ROM window and the
external window (21_cartridge.md R115 to R139). -/
def State.reaches (s : State) (a x : Word) : Bool :=
  match target a with
  | .rom _ =>
    (decide (0x4000 ≤ x.toNat) && decide (x.toNat < 0x8000)) ||
      (decide (0xA000 ≤ x.toNat) && decide (x.toNat < 0xC000))
  | .io .div => x == 0xFF04 || x == 0xFF05
  | .io .dma => x == 0xFF46 || (decide (0xFE00 ≤ x.toNat) && decide (x.toNat < 0xFEA0))
  | .io .bootOff => decide (x.toNat < 0x100)
  | .io .ly => false
  | .io _ => x == a
  | .unmapped => false
  | _ => s.sameByte a x

/-- No write of the list, made in order, can change what a bus read of `x` gives. -/
def State.outOfReach (s : State) (x : Word) : List (Word × Byte) → Prop
  | [] => True
  | w :: rest => s.reaches w.1 x = false ∧ (s.busWrite w.1 w.2).outOfReach x rest

end Machine

end Sys2Proof
end

