-- ==== Sys2Proof/Machine/Invariants.lean ====
section
/-!
DEFINITION. Machine/Invariants.lean: what holds of every state a run reaches, beyond the types: each memory block in
canonical form and inside its size, the ranges of the counters, the PPU's line and mode, the bank registers. Statements
about the machine take these as premises or say that every step keeps them.
-/

namespace Sys2Proof.Machine

/-- A block of cells in canonical form, every listed index below its size. -/
abbrev Cells.okFor {w : Nat} (m : Cells w) (size : Nat) : Prop := m.wf ∧ m.below size

/-- Every memory block in canonical form and inside its size (10_state.md R36, R37, R38). -/
abbrev State.memoryOk (s : State) : Prop :=
  Cells.okFor s.ppu.vram 0x2000 ∧ Cells.okFor s.ppu.oam 160 ∧ Cells.okFor s.bus.wram 0x2000 ∧
  Cells.okFor s.bus.hram 127 ∧ Cells.okFor s.cart.cram s.cart.ramSize ∧ Cells.okFor s.cart.image s.cart.imageSize ∧
  Cells.okFor s.env.bootImage 0x100 ∧ Cells.okFor s.ppu.fb (144 * 160) ∧ Cells.okFor s.ppu.frameOut (144 * 160)

/-- The CPU's small counters and bits (10_state.md R28, R31; 60_exceptions.md R401, R425): the EI delay is 0 to 2, a CPU
is never halted with the halt bug pending, and `illegalOp` is present exactly in the FATAL state. -/
abbrev State.cpuOk (s : State) : Prop :=
  s.cpu.imeDelay ≤ 2 ∧ ¬(s.cpu.halted = true ∧ s.cpu.haltBug = true) ∧ s.cpu.fatal = s.cpu.illegalOp.isSome

/-- The clocks (60_exceptions.md R432, R433): everything is counted in multiples of 4 cycles, and a pending reload is at
most 4 cycles away. -/
abbrev State.clocksOk (s : State) : Prop :=
  s.timer.sysctr.toNat % 4 = 0 ∧ s.timer.reloadDelay ≤ 4 ∧ s.ppu.modeClock % 4 = 0

/-- The PPU (61_ppu.md R460, R461, R477): LY is 0 to 153, the mode is V-blank exactly on the lines from 144 on, and the
mode clock has not reached the mode's length. -/
abbrev State.ppuOk (s : State) : Prop :=
  s.ppu.ly.toNat ≤ 153 ∧ (s.ppu.mode = 1 ↔ 144 ≤ s.ppu.ly.toNat) ∧ s.ppu.modeClock < modeLength s.ppu.mode

/-- The bank controller (10_state.md R38): the ROM bank register is never 0, on type 1 it has 5 significant bits and the
secondary register 2, and the clock's baseline is not in the future (21_cartridge.md R141). -/
abbrev State.cartOk (s : State) : Prop :=
  s.cart.romBankReg ≠ 0 ∧
  (s.cart.variant = .type1 → s.cart.romBankReg.toNat < 32 ∧ s.cart.secReg.toNat < 4) ∧
  s.cart.rtcBase ≤ s.env.rtcNow

end Sys2Proof.Machine
end

