-- ==== Sys2Proof/Machine/PowerOn.lean ====
section
/-!
DEFINITION. Machine/PowerOn.lean: the reset procedure (70_reset_and_hazards.md R521) for any launch parameters
(00_scope.md R11): the cartridge header (21_cartridge.md R111 to R114), the two reset profiles and RAM_INIT
(10_state.md R41, R42). `State.reset` is its result for the default parameters and a blank cartridge.
-/

namespace Sys2Proof.Machine

/-- Why no machine is built (21_cartridge.md R114, 93_implementation_defined.md U6, U7). -/
inductive LoadRefusal where
  /-- CART_IMAGE is shorter than 0x150 bytes -/
  | imageTooShort
  /-- a cartridge type code outside R111 -/
  | typeCode (v : Byte)
  /-- a ROM size code outside 0 to 8 (R112) -/
  | romSizeCode (v : Byte)
  /-- a RAM size code outside 0 to 5 (R113) -/
  | ramSizeCode (v : Byte)
  /-- BOOT_IMAGE is not 256 bytes long (00_scope.md R11) -/
  | bootImageLength
deriving DecidableEq, Repr

/-- RAM_INIT (00_scope.md R11, 92_eei_decisions.md D21). -/
inductive RamInit where
  /-- every byte and cell 0; the default -/
  | zero
  /-- the given contents, each block from its first cell on; cells beyond a list are 0 -/
  | any (vram oam wram hram cram : List Byte) (fb : List (BitVec 2))
deriving DecidableEq, Repr

/-- The launch parameters (00_scope.md R11). -/
structure Launch where
  cartImage : List Byte
  bootImage : Option (List Byte)
  joypad : Config.JoypadRead
  rtcNow : Nat
  stop : Config.StopBehaviour
  ram : RamInit
  /-- what the host does at the coming step boundaries (HostIrq and the changes of JoypadRead and RtcNow) -/
  actions : List HostAction
deriving DecidableEq, Repr

/-- The variant and has_rtc of a type code (21_cartridge.md R111). -/
def variantOf (code : Byte) : Option (Variant × Bool) :=
  match code.toNat with
  | 0x00 | 0x08 | 0x09 => some (.type0, false)
  | 0x01 | 0x02 | 0x03 => some (.type1, false)
  | 0x0F | 0x10 => some (.type3, true)
  | 0x11 | 0x12 | 0x13 => some (.type3, false)
  | _ => none

/-- `rom_banks = 2 x 2^n` for the codes 0 to 8 (21_cartridge.md R112). -/
def romBanksOf (code : Byte) : Option Nat := if code.toNat ≤ 8 then some (2 * 2 ^ code.toNat) else none

/-- The RAM size in bytes for the codes 0 to 5 (21_cartridge.md R113). -/
def ramSizeOf (code : Byte) : Option Nat :=
  match code.toNat with
  | 0 => some 0
  | 1 => some (2 * 1024)
  | 2 => some (8 * 1024)
  | 3 => some (32 * 1024)
  | 4 => some (128 * 1024)
  | 5 => some (64 * 1024)
  | _ => none

/-- The cartridge right after reset (21_cartridge.md R111 to R114, 70_reset_and_hazards.md R524). -/
def loadCart (image : List Byte) (rtcNow : Nat) : Except LoadRefusal Cart :=
  if image.length < 0x150 then .error .imageTooShort
  else
    let typeCode := image.getD 0x147 0
    let romCode := image.getD 0x148 0
    let ramCode := image.getD 0x149 0
    match variantOf typeCode, romBanksOf romCode, ramSizeOf ramCode with
    | none, _, _ => .error (.typeCode typeCode)
    | some _, none, _ => .error (.romSizeCode romCode)
    | some _, some _, none => .error (.ramSizeCode ramCode)
    | some (v, clock), some banks, some size =>
      .ok
        { State.reset.cart with
          image := Cells.ofList 0 image, imageSize := image.length, variant := v, hasRtc := clock
          romBanks := banks, ramSize := size, rtcBase := rtcNow }

/-- The memories and pictures of a state set as RAM_INIT says (10_state.md R42); the frame output starts as FB
(93_implementation_defined.md U25). -/
def State.initRam (s : State) : RamInit → State
  | .zero => s
  | .any vram oam wram hram cram fb =>
    { s with
      ppu :=
        { s.ppu with
          vram := Cells.ofList 0 (vram.take 0x2000), oam := Cells.ofList 0 (oam.take 160)
          fb := Cells.ofList 0 (fb.take (144 * 160)), frameOut := Cells.ofList 0 (fb.take (144 * 160)) }
      bus :=
        { s.bus with wram := Cells.ofList 0 (wram.take 0x2000), hram := Cells.ofList 0 (hram.take 127) }
      cart := { s.cart with cram := Cells.ofList 0 (cram.take s.cart.ramSize) } }

/-- The CPU registers of profile BOOT (10_state.md R41). -/
def bootCpu : Cpu :=
  { a := 0, b := 0, c := 0, d := 0, e := 0, h := 0, l := 0
    f := { z := false, n := false, h := false, c := false }
    sp := 0, pc := 0
    ime := false, imeDelay := 0, halted := false, haltBug := false, fatal := false, illegalOp := none }

/-- Profile BOOT laid over profile POST-BOOT: the rows of 10_state.md R41 in which the two differ. -/
def State.bootProfile (s : State) (image : List Byte) : State :=
  { s with
    cpu := bootCpu
    ppu := { s.ppu with lcdc := 0x00, bgp := 0x00 }
    bus := { s.bus with bootEnabled := true }
    env := { s.env with bootImage := Cells.ofList 0 image } }

/-- Profile POST-BOOT for a loaded cartridge (10_state.md R41). -/
def Launch.postBoot (p : Launch) (cart : Cart) : State :=
  State.initRam
    { State.reset with
      cart := cart
      env := { bootImage := [], stop := p.stop, joypad := p.joypad, rtcNow := p.rtcNow, actions := p.actions } }
    p.ram

/-- The reset procedure (70_reset_and_hazards.md R521): a machine, or the reason there is none. -/
def powerOn (p : Launch) : Except LoadRefusal State :=
  match loadCart p.cartImage p.rtcNow with
  | .error e => .error e
  | .ok cart =>
    match p.bootImage with
    | none => .ok (p.postBoot cart)
    | some image =>
      if image.length = 0x100 then .ok ((p.postBoot cart).bootProfile image) else .error .bootImageLength

/-- The default parameters of 92_eei_decisions.md with a blank 32 KiB cartridge (Log 3 to 6). -/
def Launch.default : Launch :=
  { cartImage := List.replicate Config.blankImageSize 0, bootImage := none, joypad := Config.noKeyPressed
    rtcNow := 0, stop := .nop2, ram := .zero, actions := [] }

end Sys2Proof.Machine
end

