-- ==== Sys2Proof/Safety.lean ====
section
/-!
DEFINITION. Safety.lean: what counts as a safe run. The machine can stop in two ways only: it is FATAL, or it was launched
with STOP_BEHAVIOUR = refuse and executes STOP (60_exceptions.md R400 to R402, 46_system.md R381).
-/

namespace Sys2Proof.Machine

/-- `n` steps one after another; the first fault or refusal ends the run. -/
def runSteps : Nat → State → Result
  | 0, s => .next s
  | n + 1, s =>
    match step s with
    | .next t => runSteps n t
    | .fault e => .fault e
    | .refused e => .refused e

/-- A run of `n` steps from `s` that meets no fault and no refusal. -/
def safeFor (n : Nat) (s : State) : Prop := ∃ t, runSteps n s = .next t

/-- The instruction the next step would fetch is an invalid opcode, and no interrupt is dispatched before it
(60_exceptions.md R401, R426). -/
def State.meetsInvalidOpcode (s : State) : Prop :=
  let u := s.hostTurn.delayedEnable
  u.dispatches = false ∧ u.wake.cpu.halted = false ∧ u.wake.fetchedInstr.invalidOpcode? ≠ none

end Sys2Proof.Machine
end

