-- ==== Sys2Proof/Certificates/Slice0/Obligations.lean ====
section
/-!
DEFINITION. Certificates/Slice0/Obligations.lean: the statements for the provers, from the numbered rules of spec/. Where an
instruction's rule fixes its encoding, its effect and its cycles, one statement says all three, as the bytes of `encode`
and the whole next state of `exec` (so that everything not named is unchanged). The `pc` of the state an instruction runs
in is already past its bytes (00_scope.md R16, Log 10).
-/

open Sys2Proof Sys2Proof.Machine

/-! ### Encoding -/

/-- Decoding what the encoder writes gives the instruction back with every operand, whatever follows. -/
def Obligations.DecodeOfEncode : Prop :=
  ∀ (i : Instr) (rest : List Byte), decode (encode i ++ rest) = .ok (i, rest)

/-- Every word has one meaning: bytes that decode are the encoding of what they decode to. -/
def Obligations.EncodeOfDecode : Prop :=
  ∀ (bytes : List Byte) (i : Instr) (rest : List Byte), decode bytes = .ok (i, rest) → bytes = encode i ++ rest

/-- Words of the spec's own examples, at least one of each of the seven formats of R161, decode to the instruction they
stand for (a sanity statement). -/
def Obligations.ExampleWordsDecode : Prop :=
  decode [0x01, 0x34, 0x12] = .ok (.ldBcD16 0x1234, []) ∧
  decode [0x76] = .ok (.halt, []) ∧
  decode [0x41] = .ok (.ldBC, []) ∧
  decode [0xC3, 0x50, 0x01] = .ok (.jpA16 0x0150, []) ∧
  decode [0x20, 0xFB] = .ok (.jrNzE8 0xFB, []) ∧
  decode [0x10, 0x00] = .ok (.stop 0x00, []) ∧
  decode [0xCB, 0x37] = .ok (.swapA, []) ∧
  decode [0xCB, 0x7C] = .ok (.bit7H, []) ∧
  decode [0xE0, 0xFF] = .ok (.ldhAtA8A 0xFF, []) ∧
  decode [0xD3] = .ok (.illegalD3, [])

/-! ### The registers -/

/-- The 16-bit views are the two 8-bit registers, high first; writing a view writes both; writing AF masks the low byte to its top
nibble (R22). F holds Z, N, H, C in bits 7 to 4 and 0 below (R23). Writing one 8-bit register changes that one only. -/
def Obligations.RegisterFile : Prop :=
  (∀ (k : Cpu) (v : Word),
     k.bc = k.b ++ k.c ∧ k.de = k.d ++ k.e ∧ k.hl = k.h ++ k.l ∧ k.af = k.a ++ k.f.toByte ∧
     k.setBc v = { k with b := v.extractLsb' 8 8, c := v.extractLsb' 0 8 } ∧
     k.setDe v = { k with d := v.extractLsb' 8 8, e := v.extractLsb' 0 8 } ∧
     k.setHl v = { k with h := v.extractLsb' 8 8, l := v.extractLsb' 0 8 } ∧
     (k.setAf v).a = v.extractLsb' 8 8 ∧ (k.setAf v).f.toByte = v.extractLsb' 0 8 &&& 0xF0 ∧
     k.setAf v = { k with a := (k.setAf v).a, f := (k.setAf v).f } ∧
     k.f.toByte.getLsbD 7 = k.f.z ∧ k.f.toByte.getLsbD 6 = k.f.n ∧ k.f.toByte.getLsbD 5 = k.f.h ∧
     k.f.toByte.getLsbD 4 = k.f.c ∧ k.f.toByte &&& 0x0F = 0) ∧
  (∀ (k : Cpu) (r q : Reg8) (v : Byte),
     (k.setReg r v).reg q = (if q = r then v else k.reg q) ∧
     k.setReg r v =
       { k with
         a := (k.setReg r v).reg .a, b := (k.setReg r v).reg .b, c := (k.setReg r v).reg .c
         d := (k.setReg r v).reg .d, e := (k.setReg r v).reg .e, h := (k.setReg r v).reg .h
         l := (k.setReg r v).reg .l } ∧
     k.reg .a = k.a ∧ k.reg .b = k.b ∧ k.reg .c = k.c ∧ k.reg .d = k.d ∧ k.reg .e = k.e ∧ k.reg .h = k.h ∧
     k.reg .l = k.l)

/-! ### Loads and stores of a byte -/

/-- `LD r,r'`, `LD r,d8`, `LD r,(HL)` and `LD (HL),r`, `LD (HL),d8`: encoding, destination, cycles, nothing else; a store is one
bus write and no register (R200 to R204). -/
def Obligations.LoadByteAndStoreAtHl : Prop :=
  (∀ (dst r : Reg8) (v : Byte) (s : State),
     encode (Instr.ldRegReg dst r) = [0x40 + 8 * dst.index + r.index] ∧
     exec (Instr.ldRegReg dst r) s = .next { s with cpu := s.cpu.setReg dst (s.cpu.reg r), cycles := some 4 } ∧
     encode (Instr.ldRegImm dst v) = [0x06 + 8 * dst.index, v] ∧
     exec (Instr.ldRegImm dst v) s = .next { s with cpu := s.cpu.setReg dst v, cycles := some 8 } ∧
     encode (Instr.ldRegHl dst) = [0x46 + 8 * dst.index] ∧
     exec (Instr.ldRegHl dst) s = .next { s with cpu := s.cpu.setReg dst (s.busRead s.cpu.hl), cycles := some 8 }) ∧
  (∀ (r : Reg8) (v : Byte) (s : State),
     encode (Instr.ldHlReg r) = [0x70 + r.index] ∧
     exec (Instr.ldHlReg r) s = .next { s.busWrite s.cpu.hl (s.cpu.reg r) with cpu := s.cpu, cycles := some 8 } ∧
     encode (.ldAtHlD8 v) = [0x36, v] ∧
     exec (.ldAtHlD8 v) s = .next { s.busWrite s.cpu.hl v with cpu := s.cpu, cycles := some 12 })

/-- The loads of A through BC, DE, an absolute address, the high page, and HL moved by one afterwards modulo 65536 (R205, R206,
R209, R211, R213, R215, R217). -/
def Obligations.LoadAccumulator : Prop :=
  ∀ (a : Word) (n : Byte) (s : State),
    encode .ldAAtBc = [0x0A] ∧
    exec .ldAAtBc s = .next { s with cpu := { s.cpu with a := s.busRead s.cpu.bc }, cycles := some 8 } ∧
    encode .ldAAtDe = [0x1A] ∧
    exec .ldAAtDe s = .next { s with cpu := { s.cpu with a := s.busRead s.cpu.de }, cycles := some 8 } ∧
    encode (.ldAAtA16 a) = [0xFA, a.extractLsb' 0 8, a.extractLsb' 8 8] ∧
    exec (.ldAAtA16 a) s = .next { s with cpu := { s.cpu with a := s.busRead a }, cycles := some 16 } ∧
    encode .ldhAAtC = [0xF2] ∧
    exec .ldhAAtC s =
      .next { s with cpu := { s.cpu with a := s.busRead (0xFF00 + s.cpu.c.setWidth 16) }, cycles := some 8 } ∧
    encode (.ldhAAtA8 n) = [0xF0, n] ∧
    exec (.ldhAAtA8 n) s =
      .next { s with cpu := { s.cpu with a := s.busRead (0xFF00 + n.setWidth 16) }, cycles := some 12 } ∧
    encode .ldAAtHlInc = [0x2A] ∧
    exec .ldAAtHlInc s =
      .next { s with cpu := { s.cpu.setHl (s.cpu.hl + 1) with a := s.busRead s.cpu.hl }, cycles := some 8 } ∧
    encode .ldAAtHlDec = [0x3A] ∧
    exec .ldAAtHlDec s =
      .next { s with cpu := { s.cpu.setHl (s.cpu.hl - 1) with a := s.busRead s.cpu.hl }, cycles := some 8 }

/-- The stores of A through BC, DE, an absolute address, the high page, and HL moved by one afterwards modulo 65536 (R207, R208,
R210, R212, R214, R216, R218). -/
def Obligations.StoreAccumulator : Prop :=
  ∀ (a : Word) (n : Byte) (s : State),
    encode .ldAtBcA = [0x02] ∧
    exec .ldAtBcA s = .next { s.busWrite s.cpu.bc s.cpu.a with cpu := s.cpu, cycles := some 8 } ∧
    encode .ldAtDeA = [0x12] ∧
    exec .ldAtDeA s = .next { s.busWrite s.cpu.de s.cpu.a with cpu := s.cpu, cycles := some 8 } ∧
    encode (.ldAtA16A a) = [0xEA, a.extractLsb' 0 8, a.extractLsb' 8 8] ∧
    exec (.ldAtA16A a) s = .next { s.busWrite a s.cpu.a with cpu := s.cpu, cycles := some 16 } ∧
    encode .ldhAtCA = [0xE2] ∧
    exec .ldhAtCA s =
      .next { s.busWrite (0xFF00 + s.cpu.c.setWidth 16) s.cpu.a with cpu := s.cpu, cycles := some 8 } ∧
    encode (.ldhAtA8A n) = [0xE0, n] ∧
    exec (.ldhAtA8A n) s =
      .next { s.busWrite (0xFF00 + n.setWidth 16) s.cpu.a with cpu := s.cpu, cycles := some 12 } ∧
    encode .ldAtHlIncA = [0x22] ∧
    exec .ldAtHlIncA s =
      .next { s.busWrite s.cpu.hl s.cpu.a with cpu := s.cpu.setHl (s.cpu.hl + 1), cycles := some 8 } ∧
    encode .ldAtHlDecA = [0x32] ∧
    exec .ldAtHlDecA s =
      .next { s.busWrite s.cpu.hl s.cpu.a with cpu := s.cpu.setHl (s.cpu.hl - 1), cycles := some 8 }

/-! ### Sixteen bits and the stack -/

/-- `LD rr,d16` and `LD SP,HL` (R230, R232); `LD (a16),SP`, the low byte at `a` first, then the high byte at `a + 1` modulo 65536
(R231); `LD HL,SP+e8` and `ADD SP,e8`, H and C from the unsigned addition of the low byte of SP and the raw byte (R233,
R303). -/
def Obligations.LoadWordAndStackPointer : Prop :=
  (∀ (p : Pair) (v : Word) (s : State),
     encode (Instr.ldPairImm p v) = [0x01 + 16 * p.index, v.extractLsb' 0 8, v.extractLsb' 8 8] ∧
     exec (Instr.ldPairImm p v) s = .next { s with cpu := s.cpu.setPair p v, cycles := some 12 } ∧
     encode .ldSpHl = [0xF9] ∧
     exec .ldSpHl s = .next { s with cpu := { s.cpu with sp := s.cpu.h ++ s.cpu.l }, cycles := some 8 }) ∧
  (∀ (a : Word) (s : State),
     encode (.ldAtA16Sp a) = [0x08, a.extractLsb' 0 8, a.extractLsb' 8 8] ∧
     exec (.ldAtA16Sp a) s =
       .next
         { (s.busWrite a (s.cpu.sp.extractLsb' 0 8)).busWrite (a + 1) (s.cpu.sp.extractLsb' 8 8) with
           cpu := s.cpu, cycles := some 20 }) ∧
  (∀ (e : Byte) (s : State),
     let sum := BitVec.ofInt 16 (s.cpu.sp.toNat + e.toInt)
     let f : Flags :=
       { z := false, n := false, h := decide (15 < s.cpu.sp.toNat % 16 + e.toNat % 16)
         c := decide (255 < s.cpu.sp.toNat % 256 + e.toNat) }
     encode (.ldHlSpE8 e) = [0xF8, e] ∧
     exec (.ldHlSpE8 e) s = .next { s with cpu := { s.cpu.setHl sum with f := f }, cycles := some 12 } ∧
     encode (.addSpE8 e) = [0xE8, e] ∧
     exec (.addSpE8 e) s = .next { s with cpu := { s.cpu with sp := sum, f := f }, cycles := some 16 })

/-- `PUSH rr`: SP lowered by 2, the high byte written first, at SP + 1, then the low byte at SP (R234). `POP rr` and `POP AF`: the
low byte at SP, the high byte at SP + 1, SP raised by 2; the four flags from bits 7 to 4 (R235, R236). -/
def Obligations.PushAndPop : Prop :=
  (∀ (p : StackPair) (s : State),
     encode (Instr.push p) = [0xC5 + 16 * p.index] ∧
     exec (Instr.push p) s =
       .next
         { (s.busWrite (s.cpu.sp - 1) ((s.cpu.stackPair p).extractLsb' 8 8)).busWrite (s.cpu.sp - 2)
             ((s.cpu.stackPair p).extractLsb' 0 8) with
           cpu := { s.cpu with sp := s.cpu.sp - 2 }, cycles := some 16 }) ∧
  (∀ s : State,
     let lo := s.busRead s.cpu.sp
     let hi := s.busRead (s.cpu.sp + 1)
     let sp := s.cpu.sp + 2
     encode .popBc = [0xC1] ∧ encode .popDe = [0xD1] ∧ encode .popHl = [0xE1] ∧ encode .popAf = [0xF1] ∧
     exec .popBc s = .next { s with cpu := { s.cpu with b := hi, c := lo, sp := sp }, cycles := some 12 } ∧
     exec .popDe s = .next { s with cpu := { s.cpu with d := hi, e := lo, sp := sp }, cycles := some 12 } ∧
     exec .popHl s = .next { s with cpu := { s.cpu with h := hi, l := lo, sp := sp }, cycles := some 12 } ∧
     exec .popAf s =
       .next
         { s with
           cpu :=
             { s.cpu with
               a := hi, sp := sp
               f := { z := lo.getLsbD 7, n := lo.getLsbD 6, h := lo.getLsbD 5, c := lo.getLsbD 4 } }
           cycles := some 12 })

/-- The round trip of R235: a PUSH followed by a POP of a pair of BC, DE, HL gives that pair the value pushed and SP its old
value, where both stack bytes are RAM, not the same byte. (With AF the low nibble is masked.) -/
def Obligations.PushPopRoundTrip : Prop :=
  ∀ (p q : StackPair) (s t u : State),
    s.ramAt (s.cpu.sp - 1) = true → s.ramAt (s.cpu.sp - 2) = true → s.sameByte (s.cpu.sp - 2) (s.cpu.sp - 1) = false →
    exec (Instr.push p) s = .next t → exec (Instr.pop q) t = .next u →
    u.cpu.sp = s.cpu.sp ∧
    u.cpu.stackPair q = (if q = .af then s.cpu.stackPair p &&& 0xFFF0 else s.cpu.stackPair p)

/-! ### Eight-bit arithmetic -/

/-- `ADD` and `ADC` on a register, the byte at HL and an immediate (R250, R253 to R258). -/
def Obligations.AddToAccumulator : Prop :=
  ∀ (r : Reg8) (v : Byte) (s : State),
    let sum (x : Byte) (c : Nat) (n : Nat) : Result :=
      .next
        { s with
          cpu :=
            { s.cpu with
              a := BitVec.ofNat 8 (s.cpu.a.toNat + x.toNat + c)
              f :=
                { z := decide ((s.cpu.a.toNat + x.toNat + c) % 256 = 0), n := false
                  h := decide (15 < s.cpu.a.toNat % 16 + x.toNat % 16 + c)
                  c := decide (255 < s.cpu.a.toNat + x.toNat + c) } }
          cycles := some n }
    let cy := if s.cpu.f.c then 1 else 0
    encode (Instr.aluReg .add r) = [0x80 + r.index] ∧ exec (Instr.aluReg .add r) s = sum (s.cpu.reg r) 0 4 ∧
    encode (Instr.aluHl .add) = [0x86] ∧ exec (Instr.aluHl .add) s = sum (s.busRead s.cpu.hl) 0 8 ∧
    encode (Instr.aluImm .add v) = [0xC6, v] ∧ exec (Instr.aluImm .add v) s = sum v 0 8 ∧
    encode (Instr.aluReg .adc r) = [0x88 + r.index] ∧ exec (Instr.aluReg .adc r) s = sum (s.cpu.reg r) cy 4 ∧
    encode (Instr.aluHl .adc) = [0x8E] ∧ exec (Instr.aluHl .adc) s = sum (s.busRead s.cpu.hl) cy 8 ∧
    encode (Instr.aluImm .adc v) = [0xCE, v] ∧ exec (Instr.aluImm .adc v) s = sum v cy 8

/-- `SUB`, `SBC` (R251, R259 to R264) and `CP`, whose result is discarded (R274 to R276), on a register, the byte at HL and an
immediate. -/
def Obligations.SubtractAndCompare : Prop :=
  (∀ (r : Reg8) (v : Byte) (s : State),
     let diff (x : Byte) (c : Nat) (n : Nat) : Result :=
       .next
         { s with
           cpu :=
             { s.cpu with
               a := s.cpu.a - x - BitVec.ofNat 8 c
               f :=
                 { z := s.cpu.a - x - BitVec.ofNat 8 c == 0, n := true
                   h := decide (s.cpu.a.toNat % 16 < x.toNat % 16 + c), c := decide (s.cpu.a.toNat < x.toNat + c) } }
           cycles := some n }
     let cy := if s.cpu.f.c then 1 else 0
     encode (Instr.aluReg .sub r) = [0x90 + r.index] ∧ exec (Instr.aluReg .sub r) s = diff (s.cpu.reg r) 0 4 ∧
     encode (Instr.aluHl .sub) = [0x96] ∧ exec (Instr.aluHl .sub) s = diff (s.busRead s.cpu.hl) 0 8 ∧
     encode (Instr.aluImm .sub v) = [0xD6, v] ∧ exec (Instr.aluImm .sub v) s = diff v 0 8 ∧
     encode (Instr.aluReg .sbc r) = [0x98 + r.index] ∧ exec (Instr.aluReg .sbc r) s = diff (s.cpu.reg r) cy 4 ∧
     encode (Instr.aluHl .sbc) = [0x9E] ∧ exec (Instr.aluHl .sbc) s = diff (s.busRead s.cpu.hl) cy 8 ∧
     encode (Instr.aluImm .sbc v) = [0xDE, v] ∧ exec (Instr.aluImm .sbc v) s = diff v cy 8) ∧
  (∀ (r : Reg8) (v : Byte) (s : State),
     let flags (x : Byte) (n : Nat) : Result :=
       .next
         { s with
           cpu :=
             { s.cpu with
               f :=
                 { z := decide (s.cpu.a = x), n := true, h := decide (s.cpu.a.toNat % 16 < x.toNat % 16)
                   c := decide (s.cpu.a.toNat < x.toNat) } }
           cycles := some n }
     encode (Instr.aluReg .cp r) = [0xB8 + r.index] ∧ exec (Instr.aluReg .cp r) s = flags (s.cpu.reg r) 4 ∧
     encode (Instr.aluHl .cp) = [0xBE] ∧ exec (Instr.aluHl .cp) s = flags (s.busRead s.cpu.hl) 8 ∧
     encode (Instr.aluImm .cp v) = [0xFE, v] ∧ exec (Instr.aluImm .cp v) s = flags v 8)

/-- `AND`, `XOR`, `OR`: Z from the result, N and C clear, H set by AND only (R252, R265 to R273). -/
def Obligations.LogicOnAccumulator : Prop :=
  ∀ (r : Reg8) (v : Byte) (s : State),
    let result (y : Byte) (half : Bool) (n : Nat) : Result :=
      .next
        { s with
          cpu := { s.cpu with a := y, f := { z := decide (y = 0), n := false, h := half, c := false } }
          cycles := some n }
    let a := s.cpu.a
    let x := s.cpu.reg r
    let m := s.busRead s.cpu.hl
    encode (Instr.aluReg .and r) = [0xA0 + r.index] ∧ exec (Instr.aluReg .and r) s = result (a &&& x) true 4 ∧
    encode (Instr.aluHl .and) = [0xA6] ∧ exec (Instr.aluHl .and) s = result (a &&& m) true 8 ∧
    encode (Instr.aluImm .and v) = [0xE6, v] ∧ exec (Instr.aluImm .and v) s = result (a &&& v) true 8 ∧
    encode (Instr.aluReg .xor r) = [0xA8 + r.index] ∧ exec (Instr.aluReg .xor r) s = result (a ^^^ x) false 4 ∧
    encode (Instr.aluHl .xor) = [0xAE] ∧ exec (Instr.aluHl .xor) s = result (a ^^^ m) false 8 ∧
    encode (Instr.aluImm .xor v) = [0xEE, v] ∧ exec (Instr.aluImm .xor v) s = result (a ^^^ v) false 8 ∧
    encode (Instr.aluReg .or r) = [0xB0 + r.index] ∧ exec (Instr.aluReg .or r) s = result (a ||| x) false 4 ∧
    encode (Instr.aluHl .or) = [0xB6] ∧ exec (Instr.aluHl .or) s = result (a ||| m) false 8 ∧
    encode (Instr.aluImm .or v) = [0xF6, v] ∧ exec (Instr.aluImm .or v) s = result (a ||| v) false 8

/-- `INC` and `DEC` of a register and of the byte at HL (one read, then one write); C is kept (R277 to R280). -/
def Obligations.IncrementDecrementByte : Prop :=
  ∀ (r : Reg8) (s : State),
    let up (x : Byte) : Flags :=
      { z := decide (x = 0xFF), n := false, h := decide (x.toNat % 16 = 15), c := s.cpu.f.c }
    let down (x : Byte) : Flags :=
      { z := decide (x = 1), n := true, h := decide (x.toNat % 16 = 0), c := s.cpu.f.c }
    let x := s.cpu.reg r
    let m := s.busRead s.cpu.hl
    encode (Instr.incReg r) = [0x04 + 8 * r.index] ∧
    exec (Instr.incReg r) s = .next { s with cpu := { s.cpu.setReg r (x + 1) with f := up x }, cycles := some 4 } ∧
    encode (Instr.decReg r) = [0x05 + 8 * r.index] ∧
    exec (Instr.decReg r) s = .next { s with cpu := { s.cpu.setReg r (x - 1) with f := down x }, cycles := some 4 } ∧
    encode .incAtHl = [0x34] ∧
    exec .incAtHl s = .next { s.busWrite s.cpu.hl (m + 1) with cpu := { s.cpu with f := up m }, cycles := some 12 } ∧
    encode .decAtHl = [0x35] ∧
    exec .decAtHl s = .next { s.busWrite s.cpu.hl (m - 1) with cpu := { s.cpu with f := down m }, cycles := some 12 }

/-- `DAA` (R281), in numbers: 6 and 0x60 are added after an addition where the digit or its carry asks for it, and subtracted
after a subtraction where the borrow asks for it. `CPL`, `SCF`, `CCF` (R282, R283, R284). -/
def Obligations.DecimalComplementCarry : Prop :=
  (∀ s : State,
     let a := s.cpu.a.toNat
     let f := s.cpu.f
     let low := if f.h = true ∨ (f.n = false ∧ 9 < a % 16) then 0x06 else 0
     let high := if f.c = true ∨ (f.n = false ∧ 0x99 < a) then 0x60 else 0
     let y : Byte := BitVec.ofNat 8 (if f.n then a + 256 - (low + high) else a + (low + high))
     encode .daa = [0x27] ∧
     exec .daa s =
       .next
         { s with
           cpu := { s.cpu with a := y, f := { z := decide (y = 0), n := f.n, h := false, c := decide (high = 0x60) } }
           cycles := some 4 }) ∧
  (∀ s : State,
     encode .cpl = [0x2F] ∧
     exec .cpl s =
       .next
         { s with
           cpu := { s.cpu with a := s.cpu.a ^^^ 0xFF, f := { z := s.cpu.f.z, n := true, h := true, c := s.cpu.f.c } }
           cycles := some 4 } ∧
     encode .scf = [0x37] ∧
     exec .scf s =
       .next
         { s with
           cpu := { s.cpu with f := { z := s.cpu.f.z, n := false, h := false, c := true } }, cycles := some 4 } ∧
     encode .ccf = [0x3F] ∧
     exec .ccf s =
       .next
         { s with
           cpu := { s.cpu with f := { z := s.cpu.f.z, n := false, h := false, c := !s.cpu.f.c } }, cycles := some 4 })

/-- DAA after an addition or a subtraction of packed decimal numbers gives the packed decimal result, with the hundred's
carry or borrow in C (derived from R253, R259, R281: what the correction is for). -/
def Obligations.DecimalArithmetic : Prop :=
  ∀ (x y : Nat) (s t u : State),
    let bcd (n : Nat) : Byte := BitVec.ofNat 8 (n / 10 * 16 + n % 10)
    x < 100 → y < 100 → s.cpu.a = bcd x →
    (exec (Instr.aluImm .add (bcd y)) s = .next t → exec .daa t = .next u →
      u.cpu.a = bcd ((x + y) % 100) ∧ u.cpu.f.c = decide (100 ≤ x + y)) ∧
    (exec (Instr.aluImm .sub (bcd y)) s = .next t → exec .daa t = .next u →
      u.cpu.a = bcd ((x + 100 - y) % 100) ∧ u.cpu.f.c = decide (x < y))

/-- `ADD HL,rr`, `INC rr`, `DEC rr` (R300, R301, R302). -/
def Obligations.WordArithmetic : Prop :=
  ∀ (p : Pair) (s : State),
    let a := s.cpu.hl.toNat
    let b := (s.cpu.pair p).toNat
    encode (Instr.addHl p) = [0x09 + 16 * p.index] ∧
    exec (Instr.addHl p) s =
      .next
        { s with
          cpu :=
            { s.cpu.setHl (BitVec.ofNat 16 (a + b)) with
              f :=
                { z := s.cpu.f.z, n := false, h := decide (4095 < a % 4096 + b % 4096)
                  c := decide (65535 < a + b) } }
          cycles := some 8 } ∧
    encode (Instr.incPair p) = [0x03 + 16 * p.index] ∧
    exec (Instr.incPair p) s = .next { s with cpu := s.cpu.setPair p (s.cpu.pair p + 1), cycles := some 8 } ∧
    encode (Instr.decPair p) = [0x0B + 16 * p.index] ∧
    exec (Instr.decPair p) s = .next { s with cpu := s.cpu.setPair p (s.cpu.pair p - 1), cycles := some 8 }

/-! ### Rotates, shifts and bits -/

/-- The table of R314 in numbers: the result and the carry-out of each operation on `v` with the old carry `cy`. -/
def rotateInNumbers (op : RotOp) (v : Byte) (cy : Bool) : Byte × Bool :=
  let n := v.toNat
  let c := if cy then 1 else 0
  match op with
  | .rlc => (BitVec.ofNat 8 (2 * n + n / 128), decide (128 ≤ n))
  | .rrc => (BitVec.ofNat 8 (n / 2 + 128 * (n % 2)), decide (n % 2 = 1))
  | .rl => (BitVec.ofNat 8 (2 * n + c), decide (128 ≤ n))
  | .rr => (BitVec.ofNat 8 (n / 2 + 128 * c), decide (n % 2 = 1))
  | .sla => (BitVec.ofNat 8 (2 * n), decide (128 ≤ n))
  | .sra => (BitVec.ofNat 8 (n / 2 + n / 128 * 128), decide (n % 2 = 1))
  | .swap => (BitVec.ofNat 8 (n % 16 * 16 + n / 16), false)
  | .srl => (BitVec.ofNat 8 (n / 2), decide (n % 2 = 1))

/-- `RLCA`, `RRCA`, `RLA`, `RRA`: A rotated, Z, N, H clear whatever the result (R310 to R313). -/
def Obligations.RotateAccumulator : Prop :=
  ∀ s : State,
    let rotated (op : RotOp) : Result :=
      .next
        { s with
          cpu :=
            { s.cpu with
              a := (rotateInNumbers op s.cpu.a s.cpu.f.c).1
              f := { z := false, n := false, h := false, c := (rotateInNumbers op s.cpu.a s.cpu.f.c).2 } }
          cycles := some 4 }
    encode .rlca = [0x07] ∧ exec .rlca s = rotated .rlc ∧
    encode .rrca = [0x0F] ∧ exec .rrca s = rotated .rrc ∧
    encode .rla = [0x17] ∧ exec .rla s = rotated .rl ∧
    encode .rra = [0x1F] ∧ exec .rra s = rotated .rr

/-- The eight prefixed rotates and shifts on a register and on the byte at HL (one read, one write): result, Z from it, N and H
clear, the carry-out (R314 to R330). -/
def Obligations.RotateShiftPrefixed : Prop :=
  (∀ (op : RotOp) (r : Reg8) (s : State),
     let x := rotateInNumbers op (s.cpu.reg r) s.cpu.f.c
     encode (Instr.rotReg op r) = [0xCB, 8 * op.index + r.index] ∧
     exec (Instr.rotReg op r) s =
       .next
         { s with
           cpu :=
             { s.cpu.setReg r x.1 with f := { z := decide (x.1 = 0), n := false, h := false, c := x.2 } }
           cycles := some 8 }) ∧
  (∀ (op : RotOp) (s : State),
     let x := rotateInNumbers op (s.busRead s.cpu.hl) s.cpu.f.c
     encode (Instr.rotHl op) = [0xCB, 8 * op.index + 6] ∧
     exec (Instr.rotHl op) s =
       .next
         { s.busWrite s.cpu.hl x.1 with
           cpu := { s.cpu with f := { z := decide (x.1 = 0), n := false, h := false, c := x.2 } }
           cycles := some 16 })

/-- `BIT b`: Z is the complement of the bit, N clear, H set, C kept; nothing is written (R331, R332). -/
def Obligations.TestBit : Prop :=
  ∀ (b : Fin 8) (r : Reg8) (s : State),
    let tested (v : Byte) (n : Nat) : Result :=
      .next
        { s with
          cpu := { s.cpu with f := { z := !v.getLsbD b, n := false, h := true, c := s.cpu.f.c } }, cycles := some n }
    encode (Instr.bitReg b r) = [0xCB, 0x40 + 8 * BitVec.ofNat 8 b.val + r.index] ∧
    exec (Instr.bitReg b r) s = tested (s.cpu.reg r) 8 ∧
    encode (Instr.bitHl b) = [0xCB, 0x46 + 8 * BitVec.ofNat 8 b.val] ∧
    exec (Instr.bitHl b) s = tested (s.busRead s.cpu.hl) 12

/-- `RES b` and `SET b`: the bit cleared or set, no flag; the memory forms always read once and write once (R333 to
R336). -/
def Obligations.ResetAndSetBit : Prop :=
  ∀ (b : Fin 8) (r : Reg8) (s : State),
    let m := s.busRead s.cpu.hl
    encode (Instr.resReg b r) = [0xCB, 0x80 + 8 * BitVec.ofNat 8 b.val + r.index] ∧
    exec (Instr.resReg b r) s =
      .next { s with cpu := s.cpu.setReg r (s.cpu.reg r &&& ~~~BitVec.twoPow 8 b), cycles := some 8 } ∧
    encode (Instr.resHl b) = [0xCB, 0x86 + 8 * BitVec.ofNat 8 b.val] ∧
    exec (Instr.resHl b) s =
      .next { s.busWrite s.cpu.hl (m &&& ~~~BitVec.twoPow 8 b) with cpu := s.cpu, cycles := some 16 } ∧
    encode (Instr.setReg b r) = [0xCB, 0xC0 + 8 * BitVec.ofNat 8 b.val + r.index] ∧
    exec (Instr.setReg b r) s =
      .next { s with cpu := s.cpu.setReg r (s.cpu.reg r ||| BitVec.twoPow 8 b), cycles := some 8 } ∧
    encode (Instr.setHl b) = [0xCB, 0xC6 + 8 * BitVec.ofNat 8 b.val] ∧
    exec (Instr.setHl b) s =
      .next { s.busWrite s.cpu.hl (m ||| BitVec.twoPow 8 b) with cpu := s.cpu, cycles := some 16 }

/-! ### Control transfer -/

/-- Whether a condition holds, by R350. -/
def conditionHolds (f : Flags) (cc : Cond) : Prop :=
  (cc = .nz ∧ f.z = false) ∨ (cc = .z ∧ f.z = true) ∨ (cc = .nc ∧ f.c = false) ∨ (cc = .c ∧ f.c = true)

/-- The jumps, absolute, through HL and relative, conditional with both cycle counts (R350 to R355). -/
def Obligations.Jumps : Prop :=
  ∀ (cc : Cond) (a : Word) (e : Byte) (s : State),
    let goes (pc : Word) (n : Nat) : Result := .next { s with cpu := { s.cpu with pc := pc }, cycles := some n }
    let rel := BitVec.ofInt 16 (s.cpu.pc.toNat + e.toInt)
    encode (.jpA16 a) = [0xC3, a.extractLsb' 0 8, a.extractLsb' 8 8] ∧ exec (.jpA16 a) s = goes a 16 ∧
    encode .jpHl = [0xE9] ∧ exec .jpHl s = goes (s.cpu.h ++ s.cpu.l) 4 ∧
    encode (.jrE8 e) = [0x18, e] ∧ exec (.jrE8 e) s = goes rel 12 ∧
    encode (Instr.jpIf cc a) = [0xC2 + 8 * cc.index, a.extractLsb' 0 8, a.extractLsb' 8 8] ∧
    (conditionHolds s.cpu.f cc → exec (Instr.jpIf cc a) s = goes a 16) ∧
    (¬conditionHolds s.cpu.f cc → exec (Instr.jpIf cc a) s = goes s.cpu.pc 12) ∧
    encode (Instr.jrIf cc e) = [0x20 + 8 * cc.index, e] ∧
    (conditionHolds s.cpu.f cc → exec (Instr.jrIf cc e) s = goes rel 12) ∧
    (¬conditionHolds s.cpu.f cc → exec (Instr.jrIf cc e) s = goes s.cpu.pc 8)

/-- `CALL`, `CALL cc` and `RST`: the return address pushed, high byte first, then the jump; an untaken CALL leaves SP and
memory (R356, R357, R361). -/
def Obligations.CallsAndRestarts : Prop :=
  ∀ (cc : Cond) (a : Word) (y : Fin 8) (s : State),
    let calls (pc : Word) (n : Nat) : Result :=
      .next
        { (s.busWrite (s.cpu.sp - 1) (s.cpu.pc.extractLsb' 8 8)).busWrite (s.cpu.sp - 2) (s.cpu.pc.extractLsb' 0 8) with
          cpu := { s.cpu with sp := s.cpu.sp - 2, pc := pc }, cycles := some n }
    encode (.callA16 a) = [0xCD, a.extractLsb' 0 8, a.extractLsb' 8 8] ∧ exec (.callA16 a) s = calls a 24 ∧
    encode (Instr.callIf cc a) = [0xC4 + 8 * cc.index, a.extractLsb' 0 8, a.extractLsb' 8 8] ∧
    (conditionHolds s.cpu.f cc → exec (Instr.callIf cc a) s = calls a 24) ∧
    (¬conditionHolds s.cpu.f cc → exec (Instr.callIf cc a) s = .next { s with cycles := some 12 }) ∧
    encode (Instr.rst y) = [0xC7 + 8 * BitVec.ofNat 8 y.val] ∧
    exec (Instr.rst y) s = calls (BitVec.ofNat 16 (8 * y.val)) 16

/-- `RET`, `RET cc`, `RETI`: PC popped; RETI sets IME at once and cancels a pending EI delay (R358, R359, R360). -/
def Obligations.Returns : Prop :=
  ∀ (cc : Cond) (s : State),
    let back : Cpu := { s.cpu with sp := s.cpu.sp + 2, pc := s.busRead (s.cpu.sp + 1) ++ s.busRead s.cpu.sp }
    encode .ret = [0xC9] ∧ exec .ret s = .next { s with cpu := back, cycles := some 16 } ∧
    encode (Instr.retIf cc) = [0xC0 + 8 * cc.index] ∧
    (conditionHolds s.cpu.f cc → exec (Instr.retIf cc) s = .next { s with cpu := back, cycles := some 20 }) ∧
    (¬conditionHolds s.cpu.f cc → exec (Instr.retIf cc) s = .next { s with cycles := some 8 }) ∧
    encode .reti = [0xD9] ∧
    exec .reti s = .next { s with cpu := { back with ime := true, imeDelay := 0 }, cycles := some 16 }

/-! ### System instructions -/

/-- `NOP`; `STOP` under both values of STOP_BEHAVIOUR; `HALT`, which arms the halt bug with IME = 0 and an enabled request pending
and else halts; `DI`, which clears IME and a pending delay at once; `EI`, which arms the delay to 2 unless it already runs
and does not write IME (R380 to R384). -/
def Obligations.SystemInstructions : Prop :=
  (∀ (b : Byte) (s : State),
     encode .nop = [0x00] ∧ exec .nop s = .next { s with cycles := some 4 } ∧
     encode (.stop b) = [0x10, b] ∧
     (s.env.stop = .nop2 → exec (.stop b) s = .next { s with cycles := some 4 }) ∧
     (s.env.stop = .refuse → exec (.stop b) s = .refused .stopNotSpecified)) ∧
  (∀ s : State,
     encode .halt = [0x76] ∧
     (s.cpu.ime = false → s.ic.iflag &&& s.ic.ie &&& 0x1F ≠ 0 →
       exec .halt s = .next { s with cpu := { s.cpu with haltBug := true }, cycles := some 4 }) ∧
     (s.cpu.ime = true ∨ s.ic.iflag &&& s.ic.ie &&& 0x1F = 0 →
       exec .halt s = .next { s with cpu := { s.cpu with halted := true }, cycles := some 4 })) ∧
  (∀ s : State,
     encode .di = [0xF3] ∧
     exec .di s = .next { s with cpu := { s.cpu with ime := false, imeDelay := 0 }, cycles := some 4 } ∧
     encode .ei = [0xFB] ∧
     (s.cpu.imeDelay = 0 → exec .ei s = .next { s with cpu := { s.cpu with imeDelay := 2 }, cycles := some 4 }) ∧
     (s.cpu.imeDelay ≠ 0 → exec .ei s = .next { s with cycles := some 4 }))

/-- The machine after the host's turn, written out (20_memory.md R82, R102). That the host's actions are a queue of which a
step takes the first entry is the model's choice (Log 2): the entry may replace JoypadRead, lets its seconds pass on
RtcNow, and may request the Joypad interrupt, bit 4 of IF; an empty queue changes nothing. -/
def afterHostTurn (s : State) : State :=
  match s.env.actions with
  | [] => s
  | act :: later =>
    { s with
      env :=
        { s.env with
          joypad := act.joypad.getD s.env.joypad, rtcNow := s.env.rtcNow + act.seconds, actions := later }
      ic := { s.ic with iflag := if act.requestJoypad then s.ic.iflag ||| 0x10 else s.ic.iflag } }

/-- The opcodes whose slot is marked invalid (R172). -/
def invalidOpcodes : List Byte := [0xD3, 0xDB, 0xDD, 0xE3, 0xE4, 0xEB, 0xEC, 0xED, 0xF4, 0xFC, 0xFD]

/-- The eleven invalid opcodes raise IllegalOpcode: the machine becomes FATAL, no cycle count, no tick of the timer or the PPU,
nothing else changed (R172, R386, R401). A whole step that decodes one, not dispatching and not idle in a halt, leaves PC
past the byte, or at it under the halt bug, and the EI delay decremented by part (a); every other piece of state is as
before the step, IME, halted and halt_bug too (R386, R401; that these win over the order of R420 is the model's inference,
Log 27). A step faults exactly in the FATAL state. That the FATAL state is a next state of the step that enters it is the
model's inference, that it keeps the opcode in `illegalOp` the model's choice (both Log 9). The host's turn before the
step is `afterHostTurn` (Log 2). -/
def Obligations.InvalidOpcodesAreFatal : Prop :=
  ((∀ op : Byte, (∃ i : Instr, i.invalidOpcode? = some op) ↔ op ∈ invalidOpcodes) ∧
   ∀ (i : Instr) (op : Byte) (s : State), i.invalidOpcode? = some op →
     encode i = [op] ∧
     exec i s = .next { s with cpu := { s.cpu with fatal := true, illegalOp := some op }, cycles := none } ∧
     Result.andThen (exec i s) State.tickDevices = exec i s) ∧
  (∀ (s : State) (op : Byte),
     let h := afterHostTurn s
     let u := h.delayedEnable
     let pending := u.ic.iflag &&& u.ic.ie &&& 0x1F
     s.cpu.fatal = false → (pending = 0 ∨ u.cpu.ime = false) → (pending = 0 → u.cpu.halted = false) →
     u.busRead u.cpu.pc = op → op ∈ invalidOpcodes →
     step s =
       .next
         { h with
           cpu :=
             { h.cpu with
               pc := if h.cpu.haltBug then h.cpu.pc else h.cpu.pc + 1
               imeDelay := h.cpu.imeDelay - 1, fatal := true, illegalOp := some op }
           cycles := none }) ∧
  (∀ s : State,
     (s.cpu.fatal = true → step s = .fault .fatalStuck) ∧ ∀ e, step s = .fault e → s.cpu.fatal = true)

/-! ### The step -/

/-- The host's turn is `afterHostTurn` (R82, R102; the queue is the model's choice, Log 2). After it, a step with no
dispatch, no halt and no halt bug runs the defined instruction that the bytes at PC decode to, with PC past them, and then
the devices tick (R420, R424, R440). A step that decodes an invalid opcode is in `InvalidOpcodesAreFatal`. -/
def Obligations.StepRunsTheDecodedInstruction : Prop :=
  (∀ s : State, s.hostTurn = afterHostTurn s) ∧
  ∀ (s : State) (i : Instr) (rest : List Byte),
    let u := (afterHostTurn s).delayedEnable
    let pending := u.ic.iflag &&& u.ic.ie &&& 0x1F
    s.cpu.fatal = false → (pending = 0 ∨ u.cpu.ime = false) → (pending = 0 → u.cpu.halted = false) →
    u.cpu.haltBug = false →
    decode [u.busRead u.cpu.pc, u.busRead (u.cpu.pc + 1), u.busRead (u.cpu.pc + 2)] = .ok (i, rest) →
    i.invalidOpcode? = none →
    step s =
      Result.andThen
        (exec i
          { u with
            cpu := { u.cpu with halted := false, pc := u.cpu.pc + BitVec.ofNat 16 (encode i).length } })
        State.tickDevices

/-- The same under the halt bug: the opcode byte is read again as the byte after it, and PC ends one short (R424, R425). The
host's turn before it is written out in `afterHostTurn` (R82, R102; the queue is the model's choice, Log 2). A step that
decodes an invalid opcode under the halt bug is in `InvalidOpcodesAreFatal`. -/
def Obligations.HaltBugRepeatsTheOpcodeByte : Prop :=
  ∀ (s : State) (i : Instr) (rest : List Byte),
    let u := (afterHostTurn s).delayedEnable
    let pending := u.ic.iflag &&& u.ic.ie &&& 0x1F
    s.cpu.fatal = false → (pending = 0 ∨ u.cpu.ime = false) → (pending = 0 → u.cpu.halted = false) →
    u.cpu.haltBug = true →
    decode [u.busRead u.cpu.pc, u.busRead u.cpu.pc, u.busRead (u.cpu.pc + 1)] = .ok (i, rest) →
    i.invalidOpcode? = none →
    step s =
      Result.andThen
        (exec i
          { u with
            cpu :=
              { u.cpu with
                halted := false, haltBug := false
                pc := u.cpu.pc + BitVec.ofNat 16 ((encode i).length - 1) } })
        State.tickDevices

/-- Part (a) of the CPU step: the EI delay counts down and sets IME when it reaches 0 (R421). Part (b): a pending enabled request
ends the halt whatever IME is, and with IME = 0 the same step goes on as if the CPU had not been halted (R422); with none
pending a halted CPU idles for 4 cycles. Where the step decodes an invalid opcode, `InvalidOpcodesAreFatal` says what it
leaves. -/
def Obligations.DelayAndWakeUp : Prop :=
  (∀ (s : State) (n : Nat),
     (s.cpu.imeDelay = 0 → s.delayedEnable = s) ∧
     (s.cpu.imeDelay = 1 → s.delayedEnable = { s with cpu := { s.cpu with imeDelay := 0, ime := true } }) ∧
     (s.cpu.imeDelay = n + 2 → s.delayedEnable = { s with cpu := { s.cpu with imeDelay := n + 1 } })) ∧
  (∀ s : State,
     let u := s.delayedEnable
     let pending := u.ic.iflag &&& u.ic.ie &&& 0x1F
     (u.cpu.halted = true → pending = 0 → s.cpuStep = .next { u with cycles := some 4 }) ∧
     (u.cpu.ime = false → pending ≠ 0 → u.busRead u.cpu.pc ∉ invalidOpcodes →
       s.cpuStep = State.cpuStep { s with cpu := { s.cpu with halted := false } }))

/-- Dispatch: with IME = 1 and `n` the lowest pending enabled source, PC is pushed, IME and the delay are cleared, request
`n` is cleared, PC is the vector, 20 cycles, and no instruction runs (R413, R423). -/
def Obligations.InterruptDispatch : Prop :=
  ∀ (s : State) (n : Nat),
    let u := s.delayedEnable
    let pending := u.ic.iflag &&& u.ic.ie &&& 0x1F
    let t := (u.busWrite (u.cpu.sp - 1) (u.cpu.pc.extractLsb' 8 8)).busWrite (u.cpu.sp - 2) (u.cpu.pc.extractLsb' 0 8)
    u.cpu.ime = true → n < 5 → pending.getLsbD n = true → (∀ m, m < n → pending.getLsbD m = false) →
    s.cpuStep =
      .next
        { t with
          cpu :=
            { u.cpu with
              halted := false, ime := false, imeDelay := 0, sp := u.cpu.sp - 2
              pc := BitVec.ofNat 16 (0x40 + 8 * n) }
          ic := { t.ic with iflag := t.ic.iflag &&& ~~~BitVec.twoPow 8 n }
          cycles := some 20 }

/-- IME in the next state, for every step: cleared by a dispatch; kept by an idle step; else cleared by DI, set by RETI and
kept by every other instruction, from the value part (a) leaves (R383, R360, R421, R423; nothing else writes IME). An
invalid opcode leaves IME as it was before the step, part (a) undone (R386, R401; the model's inference, Log 27). The host's turn before part (a) is `afterHostTurn` (R82, R102; the queue is the model's choice, Log 2). -/
def Obligations.OnlyTheseWriteIme : Prop :=
  ∀ s t : State, step s = .next t →
    let u := (afterHostTurn s).delayedEnable
    t.cpu.ime =
      (if u.dispatches then false
      else if u.wake.cpu.halted then u.cpu.ime
      else
        match u.wake.fetchedInstr with
        | .di => false
        | .reti => true
        | i => if i.invalidOpcode?.isSome then s.cpu.ime else u.cpu.ime)

/-- A step of a machine that is not FATAL gives a FATAL one exactly when it fetches an invalid opcode (R401, R426).
Without `STOP_BEHAVIOUR = refuse` the machine always goes on until it is FATAL: every step of a machine that is not FATAL has a
next state, FATAL itself or after 4, 8, 12, 16, 20 or 24 cycles; a run meets no refusal, and is safe as long as no state
before its last is FATAL (R402, R440). The FATAL next state is the model's inference (Log 9). -/
def Obligations.EveryStepGoesOn : Prop :=
  (∀ s t : State, s.cpu.fatal = false → step s = .next t → (t.cpu.fatal = true ↔ s.meetsInvalidOpcode)) ∧
  (∀ s : State, s.cpu.fatal = false → s.env.stop = .nop2 →
     ∃ t, step s = .next t ∧
       ((t.cpu.fatal = true ∧ t.cycles = none) ∨ ∃ n, 1 ≤ n ∧ n ≤ 6 ∧ t.cycles = some (4 * n))) ∧
  (∀ (n : Nat) (s : State), s.env.stop = .nop2 → s.cpu.fatal = false →
     (∀ e, runSteps n s ≠ .refused e) ∧
     ((∀ m t, m < n → runSteps m s = .next t → t.cpu.fatal = false) → safeFor n s))

/-! ### Bus writes of instructions -/

/-- What an instruction does outside the CPU is exactly its bus writes, at the addresses its operand forms give, in order
(the whole-machine form of "Exceptions: none", R61, R96). -/
def Obligations.EffectIsItsBusWrites : Prop :=
  ∀ (i : Instr) (s t : State), exec i s = .next t →
    { t with cpu := s.cpu, cycles := s.cycles } = s.busWrites (i.stores s)

/-- The memory frame of every instruction: an address that none of its bus writes can reach reads as before; for an
instruction that stores nothing this is every address. -/
def Obligations.MemoryFrame : Prop :=
  ∀ (i : Instr) (s t : State) (x : Word), exec i s = .next t → s.outOfReach x (i.stores s) →
    t.busRead x = s.busRead x

/-! ### The bus -/

/-- A write to a byte of RAM is read back at every address of that byte and changes no other address (R74, R76, R78, R89). -/
def Obligations.RamReadAfterWrite : Prop :=
  ∀ (s : State) (a x : Word) (v : Byte), s.ramAt a = true →
    (s.busWrite a v).busRead x = if s.sameByte a x = true then v else s.busRead x

/-- The reach of a bus write of any kind (R66, R94): an address outside it reads as before. -/
def Obligations.WriteReach : Prop :=
  ∀ (s : State) (a x : Word) (v : Byte), s.reaches a x = false → (s.busWrite a v).busRead x = s.busRead x

/-- Echo RAM: reads and writes at 0xE000 + k act on the byte of 0xC000 + k, k below 0x1E00 (R77). The clause on writes rests on
an inference that the spec marks as its own: "That writes are mirrored as well as reads is [derived: from "mirrors" and
the absence of any separate echo storage in the source §3]" (R77). The unusable window and the unmapped I/O addresses read
0xFF and discard writes (R79, R80). -/
def Obligations.EchoAndUnmapped : Prop :=
  (∀ (s : State) (k : Nat) (v : Byte), k < 0x1E00 →
     s.busRead (BitVec.ofNat 16 (0xE000 + k)) = Cells.read s.bus.wram k ∧
     s.busRead (BitVec.ofNat 16 (0xC000 + k)) = Cells.read s.bus.wram k ∧
     s.busWrite (BitVec.ofNat 16 (0xE000 + k)) v = s.busWrite (BitVec.ofNat 16 (0xC000 + k)) v ∧
     s.busWrite (BitVec.ofNat 16 (0xE000 + k)) v = { s with bus := { s.bus with wram := Cells.write s.bus.wram k v } }) ∧
  (∀ (s : State) (a : Word) (v : Byte),
     (0xFEA0 ≤ a.toNat ∧ a.toNat ≤ 0xFEFF) ∨ a.toNat = 0xFF03 ∨ (0xFF08 ≤ a.toNat ∧ a.toNat ≤ 0xFF0E) ∨
       (0xFF10 ≤ a.toNat ∧ a.toNat ≤ 0xFF3F) ∨ (0xFF4C ≤ a.toNat ∧ a.toNat ≤ 0xFF4F) ∨
       (0xFF51 ≤ a.toNat ∧ a.toNat ≤ 0xFF7F) →
     s.busRead a = 0xFF ∧ s.busWrite a v = s)

/-- The registers of the joypad, the serial port, the timer and the interrupt controller: what a write stores and what a
read gives (R82 to R86; the write to DIV is R435). -/
def Obligations.DeviceRegisters : Prop :=
  ∀ (s : State) (v : Byte),
    s.busWrite 0xFF00 v = { s with bus := { s.bus with joypSel := v.extractLsb' 4 2 } } ∧
    (s.bus.joypSel = 0 → s.busRead 0xFF00 = s.env.joypad.sel0) ∧
    (s.bus.joypSel = 1 → s.busRead 0xFF00 = s.env.joypad.sel1) ∧
    (s.bus.joypSel = 2 → s.busRead 0xFF00 = s.env.joypad.sel2) ∧
    (s.bus.joypSel = 3 → s.busRead 0xFF00 = s.env.joypad.sel3) ∧
    s.busRead 0xFF01 = s.bus.sb ∧ s.busWrite 0xFF01 v = { s with bus := { s.bus with sb := v } } ∧
    s.busRead 0xFF02 = s.bus.sc ∧
    s.busWrite 0xFF02 v =
      { s with
        bus := { s.bus with sc := v, serialSink := s.bus.serialSink ++ if v = 0x81 then [s.bus.sb] else [] } } ∧
    s.busRead 0xFF04 = s.timer.sysctr.extractLsb' 8 8 ∧
    s.busRead 0xFF05 = s.timer.tima ∧ s.busWrite 0xFF05 v = { s with timer := { s.timer with tima := v } } ∧
    s.busRead 0xFF06 = s.timer.tma ∧ s.busWrite 0xFF06 v = { s with timer := { s.timer with tma := v } } ∧
    s.busRead 0xFF07 = s.timer.tac ∧ s.busWrite 0xFF07 v = { s with timer := { s.timer with tac := v } } ∧
    s.busRead 0xFF0F = s.ic.iflag ∧ s.busWrite 0xFF0F v = { s with ic := { s.ic with iflag := v } } ∧
    s.busRead 0xFFFF = s.ic.ie ∧ s.busWrite 0xFFFF v = { s with ic := { s.ic with ie := v } }

/-- The PPU registers and the boot latch: STAT keeps its low three bits, LY ignores writes, the latch only ever clears
(R87 but for the DMA copy, R88). -/
def Obligations.PpuRegistersAndBootLatch : Prop :=
  ∀ (s : State) (v : Byte),
    s.busRead 0xFF40 = s.ppu.lcdc ∧ s.busWrite 0xFF40 v = { s with ppu := { s.ppu with lcdc := v } } ∧
    s.busRead 0xFF41 = s.ppu.stat ∧
    s.busWrite 0xFF41 v = { s with ppu := { s.ppu with stat := (v &&& 0xF8) ||| (s.ppu.stat &&& 0x07) } } ∧
    s.busRead 0xFF42 = s.ppu.scy ∧ s.busWrite 0xFF42 v = { s with ppu := { s.ppu with scy := v } } ∧
    s.busRead 0xFF43 = s.ppu.scx ∧ s.busWrite 0xFF43 v = { s with ppu := { s.ppu with scx := v } } ∧
    s.busRead 0xFF44 = s.ppu.ly ∧ s.busWrite 0xFF44 v = s ∧
    s.busRead 0xFF45 = s.ppu.lyc ∧ s.busWrite 0xFF45 v = { s with ppu := { s.ppu with lyc := v } } ∧
    s.busRead 0xFF46 = s.ppu.dma ∧
    s.busRead 0xFF47 = s.ppu.bgp ∧ s.busWrite 0xFF47 v = { s with ppu := { s.ppu with bgp := v } } ∧
    s.busRead 0xFF48 = s.ppu.obp0 ∧ s.busWrite 0xFF48 v = { s with ppu := { s.ppu with obp0 := v } } ∧
    s.busRead 0xFF49 = s.ppu.obp1 ∧ s.busWrite 0xFF49 v = { s with ppu := { s.ppu with obp1 := v } } ∧
    s.busRead 0xFF4A = s.ppu.wy ∧ s.busWrite 0xFF4A v = { s with ppu := { s.ppu with wy := v } } ∧
    s.busRead 0xFF4B = s.ppu.wx ∧ s.busWrite 0xFF4B v = { s with ppu := { s.ppu with wx := v } } ∧
    s.busRead 0xFF50 = 0xFF ∧
    s.busWrite 0xFF50 v = { s with bus := { s.bus with bootEnabled := s.bus.bootEnabled && decide (v = 0) } }

/-- OAM DMA: DMA holds `v`, byte `i` of OAM is what a bus read of `0x100 v + i` gave with DMA already written, and nothing
else changes, cycles included (R90). That the cycles and the CPU are untouched is an inference that the spec marks as its
own: "The copy adds nothing to the cycle count of the instruction that made the write, and the CPU is not halted or
restricted afterwards [derived: from "synchronously" and from the cycle count being a fixed property of the instruction]"
(R90). -/
def Obligations.OamDmaCopiesAPage : Prop :=
  ∀ (s : State) (v : Byte),
    let d : State := { s with ppu := { s.ppu with dma := v } }
    s.busWrite 0xFF46 v = { d with ppu := { d.ppu with oam := (s.busWrite 0xFF46 v).ppu.oam } } ∧
    ∀ i, i < 0xA0 →
      (s.busWrite 0xFF46 v).busRead (BitVec.ofNat 16 (0xFE00 + i)) =
        d.busRead (BitVec.ofNat 16 (0x100 * v.toNat + i))

/-- The boot overlay covers reads of 0x0000 to 0x00FF while it is enabled, and no write (R70); the fixed bank shows the start of
the image, 0xFF beyond its end (R71); the switchable window shows the effective bank (R72). The clause on writes rests on
an inference that the spec marks as its own: "a write to these addresses goes to the cartridge's bank controller exactly
as with the overlay off [derived: from "reads of addresses 0x0000–0x00FF return boot-ROM bytes" naming reads only, and
rule R73]" (R70). -/
def Obligations.RomWindowAndOverlay : Prop :=
  (∀ (s : State) (a : Word) (v : Byte), a.toNat < 0x4000 →
     (s.bus.bootEnabled = true → a.toNat < 0x100 → s.busRead a = Cells.read s.env.bootImage a.toNat) ∧
     (s.bus.bootEnabled = false ∨ 0x100 ≤ a.toNat →
       s.busRead a = if a.toNat < s.cart.imageSize then Cells.read s.cart.image a.toNat else 0xFF) ∧
     s.busWrite a v = { s with cart := (State.busWrite { s with bus := { s.bus with bootEnabled := false } } a v).cart }) ∧
  (∀ (s : State) (a : Word), 0x4000 ≤ a.toNat → a.toNat < 0x8000 →
     s.busRead a =
       if s.cart.effRomBank * 0x4000 + (a.toNat - 0x4000) < s.cart.imageSize then
         Cells.read s.cart.image (s.cart.effRomBank * 0x4000 + (a.toNat - 0x4000))
       else 0xFF)

/-! ### The cartridge -/

/-- The bank controllers: the four registers of type 1 by the four windows, the coercion of bank 0 and the effective bank in the two
modes (R120 to R124); the registers of type 3, its clock apart (R130 to R133); type 0, which ignores every write (R115,
R116). That the coercion of bank 0 in type 1 tests the 5 masked bits is an inference that the spec marks as its own: "so
0x20, 0x40, 0x60 also give 1 [derived: from "5-bit" and "bank index 0 written to the ROM-bank-select register is coerced
to 1"]" (R121). -/
def Obligations.BankControllers : Prop :=
  (∀ (s : State) (a : Word) (v : Byte), s.cart.variant = .type1 →
     (a.toNat < 0x2000 →
       s.busWrite a v = { s with cart := { s.cart with ramEnable := decide (v.toNat % 16 = 10) } }) ∧
     (0x2000 ≤ a.toNat → a.toNat < 0x4000 →
       s.busWrite a v =
         { s with
           cart :=
             { s.cart with romBankReg := if v.toNat % 32 = 0 then 1 else BitVec.ofNat 7 (v.toNat % 32) } }) ∧
     (0x4000 ≤ a.toNat → a.toNat < 0x6000 →
       s.busWrite a v = { s with cart := { s.cart with secReg := BitVec.ofNat 8 (v.toNat % 4) } }) ∧
     (0x6000 ≤ a.toNat → a.toNat < 0x8000 →
       s.busWrite a v = { s with cart := { s.cart with bankMode := decide (v.toNat % 2 = 1) } }) ∧
     (s.cartOk → s.cart.bankMode = false →
       s.cart.effRomBank = (32 * s.cart.secReg.toNat + s.cart.romBankReg.toNat) % s.cart.romBanks) ∧
     (s.cartOk → s.cart.bankMode = true → s.cart.effRomBank = s.cart.romBankReg.toNat % s.cart.romBanks)) ∧
  (∀ (s : State) (a : Word) (v : Byte),
     (s.cart.variant = .type3 →
       (a.toNat < 0x2000 →
         s.busWrite a v = { s with cart := { s.cart with ramEnable := decide (v.toNat % 16 = 10) } }) ∧
       (0x2000 ≤ a.toNat → a.toNat < 0x4000 →
         s.busWrite a v =
           { s with
             cart :=
               { s.cart with romBankReg := if v.toNat % 128 = 0 then 1 else BitVec.ofNat 7 (v.toNat % 128) } }) ∧
       (0x4000 ≤ a.toNat → a.toNat < 0x6000 → s.busWrite a v = { s with cart := { s.cart with secReg := v } }) ∧
       (0x6000 ≤ a.toNat → a.toNat < 0x8000 →
         s.cart.hasRtc = false ∨ s.cart.latchPrev ≠ 0x00 ∨ v ≠ 0x01 →
         s.busWrite a v = { s with cart := { s.cart with latchPrev := v } }) ∧
       s.cart.effRomBank = s.cart.romBankReg.toNat % s.cart.romBanks) ∧
     (s.cart.variant = .type0 → s.cart.effRomBank = 1 ∧ (a.toNat < 0x8000 → s.busWrite a v = s)))

/-- The external window: 0xFF and discarded writes when nothing stands behind it (R117, R125, R137, R139), else the byte of
cartridge RAM the bank selects, modulo its size (R117, R125, R137). -/
def Obligations.ExternalWindow : Prop :=
  (∀ (s : State) (a : Word) (v : Byte), 0xA000 ≤ a.toNat → a.toNat < 0xC000 →
     (s.cart.variant = .type0 ∧ s.cart.ramSize = 0) ∨
       (s.cart.variant = .type1 ∧ (s.cart.ramSize = 0 ∨ s.cart.ramEnable = false)) ∨
       (s.cart.variant = .type3 ∧
         (s.cart.ramEnable = false ∨ (s.cart.secReg.toNat ≤ 3 ∧ s.cart.ramSize = 0) ∨
           (4 ≤ s.cart.secReg.toNat ∧ s.cart.secReg.toNat ≤ 7) ∨ 13 ≤ s.cart.secReg.toNat ∨
           (8 ≤ s.cart.secReg.toNat ∧ s.cart.hasRtc = false))) →
     s.busRead a = 0xFF ∧ s.busWrite a v = s) ∧
  (∀ (s : State) (a : Word) (v : Byte) (bank : Nat), 0xA000 ≤ a.toNat → a.toNat < 0xC000 → s.cart.ramSize ≠ 0 →
     (s.cart.variant = .type0 ∧ bank = 0) ∨
       (s.cart.variant = .type1 ∧ s.cart.ramEnable = true ∧ s.cart.bankMode = false ∧ bank = 0) ∨
       (s.cart.variant = .type1 ∧ s.cart.ramEnable = true ∧ s.cart.bankMode = true ∧ bank = s.cart.secReg.toNat % 4) ∨
       (s.cart.variant = .type3 ∧ s.cart.ramEnable = true ∧ s.cart.secReg.toNat ≤ 3 ∧ bank = s.cart.secReg.toNat) →
     s.busRead a = Cells.read s.cart.cram ((0x2000 * bank + (a.toNat - 0xA000)) % s.cart.ramSize) ∧
     s.busWrite a v =
       { s with
         cart :=
           { s.cart with
             cram := Cells.write s.cart.cram ((0x2000 * bank + (a.toNat - 0xA000)) % s.cart.ramSize) v } })

/-- The clock of type 3 (R134, R135, R140): the latch runs on 0x00 then 0x01; the latched registers are the time of the live
ones plus the seconds since the baseline, or the live ones verbatim while halted; a write stores the byte in the live
register and restarts the baseline when day-high goes from halted to running. -/
def Obligations.RealTimeClock : Prop :=
  ∀ (s : State) (a : Word) (v : Byte), s.cart.variant = .type3 → s.cart.hasRtc = true →
    (0x6000 ≤ a.toNat → a.toNat < 0x8000 → s.cart.latchPrev = 0x00 → v = 0x01 →
      ∃ l : Rtc,
        s.busWrite a v = { s with cart := { s.cart with rtcLatched := l, latchPrev := 0x01 } } ∧
        (s.cart.rtcLive.dayHigh.getLsbD 6 = true → l = s.cart.rtcLive) ∧
        (s.cart.rtcLive.dayHigh.getLsbD 6 = false → s.cart.rtcBase ≤ s.env.rtcNow →
          let r := s.cart.rtcLive
          let total :=
            r.seconds.toNat + 60 * r.minutes.toNat + 3600 * r.hours.toNat +
              86400 * (r.dayLow.toNat + 256 * (r.dayHigh.toNat % 2)) + (s.env.rtcNow - s.cart.rtcBase)
          let days := total / 86400
          l.seconds.toNat = total % 60 ∧ l.minutes.toNat = total / 60 % 60 ∧ l.hours.toNat = total / 3600 % 24 ∧
          l.dayLow.toNat = days % 256 ∧
          l.dayHigh.toNat = (if 128 ≤ r.dayHigh.toNat ∨ 511 < days then 128 else 0) + days / 256 % 2)) ∧
    (0x6000 ≤ a.toNat → a.toNat < 0x8000 → s.cart.latchPrev ≠ 0x00 ∨ v ≠ 0x01 →
      s.busWrite a v = { s with cart := { s.cart with latchPrev := v } }) ∧
    (0xA000 ≤ a.toNat → a.toNat < 0xC000 → s.cart.ramEnable = true →
      ∀ k, k < 5 → s.cart.secReg.toNat = 8 + k →
        s.busRead a = s.cart.rtcLatched.get k ∧
        s.busWrite a v =
          { s with
            cart :=
              { s.cart with
                rtcLive := s.cart.rtcLive.set k v
                rtcBase :=
                  if k = 4 ∧ s.cart.rtcLive.dayHigh.getLsbD 6 = true ∧ v.getLsbD 6 = false then s.env.rtcNow
                  else s.cart.rtcBase } })

/-! ### The timer -/

/-- One tick of the timer (R432, R433, R434): the counter, then a pending reload with its request, then the falling edge of the
selected bit, compared at the two ends of the tick. A write to DIV, any value, clears the counter; if the timer is enabled
and the selected bit was 1, TIMA counts, and an overflow arms the reload delay (R435). -/
def Obligations.TimerTickAndDivWrite : Prop :=
  (∀ (s : State) (c : Nat),
     let old := s.timer.sysctr
     let new := old + BitVec.ofNat 16 c
     let reload := s.timer.reloadDelay ≠ 0 ∧ s.timer.reloadDelay ≤ c
     let tima := if reload then s.timer.tma else s.timer.tima
     let bit := [9, 3, 5, 7].getD (s.timer.tac.toNat % 4) 0
     let edge := s.timer.tac.getLsbD 2 = true ∧ old.getLsbD bit = true ∧ new.getLsbD bit = false
     s.timerTick c =
       { s with
         timer :=
           { s.timer with
             sysctr := new
             tima := if edge then tima + 1 else tima
             reloadDelay := if edge ∧ tima = 0xFF then 4 else s.timer.reloadDelay - c }
         ic := { s.ic with iflag := if reload then s.ic.iflag ||| 0x04 else s.ic.iflag } }) ∧
  (∀ (s : State) (v : Byte),
     let bit := [9, 3, 5, 7].getD (s.timer.tac.toNat % 4) 0
     let edge := s.timer.tac.getLsbD 2 = true ∧ s.timer.sysctr.getLsbD bit = true
     s.busWrite 0xFF04 v =
       { s with
         timer :=
           { s.timer with
             sysctr := 0
             tima := if edge then s.timer.tima + 1 else s.timer.tima
             reloadDelay := if edge ∧ s.timer.tima = 0xFF then 4 else s.timer.reloadDelay } })

/-! ### The PPU -/

/-- The line advance with its LYC flag and request (R473) and the entry of a mode with its requests (R476). -/
def Obligations.LineAdvanceAndModeEntry : Prop :=
  ∀ (s : State) (v : Byte) (m : BitVec 2),
    s.setLy v =
      { s with
        ppu := { s.ppu with ly := v, stat := if v = s.ppu.lyc then s.ppu.stat ||| 0x04 else s.ppu.stat &&& 0xFB }
        ic :=
          { s.ic with
            iflag :=
              if v = s.ppu.lyc ∧ s.ppu.stat.getLsbD 6 = true then s.ic.iflag ||| 0x02 else s.ic.iflag } } ∧
    s.enterMode m =
      { s with
        ppu := { s.ppu with stat := (s.ppu.stat &&& 0xFC) ||| m.setWidth 8 }
        ic :=
          { s.ic with
            iflag :=
              s.ic.iflag ||| (if m = 1 then 0x01 else 0) |||
                (if (m = 0 ∧ s.ppu.stat.getLsbD 3 = true) ∨ (m = 1 ∧ s.ppu.stat.getLsbD 4 = true) ∨
                    (m = 2 ∧ s.ppu.stat.getLsbD 5 = true) then
                  0x02
                else 0) } }

/-- The loop of PpuStep (R470): when the cycles of the current mode are up they are subtracted, the mode is left as the rule
says, and the loop goes on with what remains; else nothing happens. -/
def Obligations.PpuStepIsTheLoop : Prop :=
  ∀ (s : State) (c : Nat),
    let x := s.ppu.modeClock + c
    let after (n : Nat) : State := { s with ppu := { s.ppu with modeClock := x - n } }
    (s.ppu.mode = 2 → 80 ≤ x → s.ppuStep c = ((after 80).enterMode 3).ppuStep 0) ∧
    (s.ppu.mode = 3 → 172 ≤ x →
      s.ppuStep c =
        (State.enterMode
          { s with ppu := { s.ppu with modeClock := x - 172, fb := s.ppu.renderScanline s.ppu.ly.toNat } } 0).ppuStep 0) ∧
    (s.ppu.mode = 0 → 204 ≤ x → s.ppu.ly ≠ 143 →
      s.ppuStep c = (((after 204).setLy (s.ppu.ly + 1)).enterMode 2).ppuStep 0) ∧
    (s.ppu.mode = 0 → 204 ≤ x → s.ppu.ly = 143 →
      s.ppuStep c = (((after 204).setLy 144).enterMode 1).ppuStep 0) ∧
    (s.ppu.mode = 1 → 456 ≤ x → s.ppu.ly ≠ 153 → s.ppuStep c = ((after 456).setLy (s.ppu.ly + 1)).ppuStep 0) ∧
    (s.ppu.mode = 1 → 456 ≤ x → s.ppu.ly = 153 →
      let t := (after 456).setLy 0
      s.ppuStep c =
        (State.enterMode
          { t with ppu := { t.ppu with frameOut := s.ppu.fb, frames := s.ppu.frames + 1 } } 2).ppuStep 0) ∧
    ((s.ppu.mode = 2 ∧ x < 80) ∨ (s.ppu.mode = 3 ∧ x < 172) ∨ (s.ppu.mode = 0 ∧ x < 204) ∨
        (s.ppu.mode = 1 ∧ x < 456) →
      s.ppuStep c = after 0)

/-- How the cycles are split into steps does not matter to the PPU (R477: the excess is carried, never lost). -/
def Obligations.PpuTimeAdds : Prop :=
  ∀ (s : State) (a b : Nat), s.ppuStep (a + b) = (s.ppuStep a).ppuStep b

/-- A frame takes 70,224 cycles: from the start of line 0 the PPU is back there with one more frame published, the frame
output being the framebuffer (R462, R505, R506). -/
def Obligations.FrameTakes70224Cycles : Prop :=
  ∀ s : State, s.ppu.mode = 2 → s.ppu.ly = 0 → s.ppu.modeClock = 0 →
    let t := s.ppuStep 70224
    t.ppu.mode = 2 ∧ t.ppu.ly = 0 ∧ t.ppu.modeClock = 0 ∧ t.ppu.frames = s.ppu.frames + 1 ∧ t.ppu.frameOut = t.ppu.fb

/-- The byte of VRAM at a bus address, for the renderer (R481). -/
def vramByte (p : Ppu) (a : Nat) : Byte := Cells.read p.vram (a - 0x8000)

/-- A pixel of the picture a tile map describes, in numbers (R481, R482, R483): row `py`, column `px`, both below 256. -/
def tilePixelInNumbers (p : Ppu) (map py px : Nat) : Nat :=
  let t := (vramByte p (map + 32 * (py / 8) + px / 8)).toNat
  let tile := if p.lcdc.getLsbD 4 then 0x8000 + 16 * t else if t < 128 then 0x9000 + 16 * t else 0x8000 + 16 * t
  let low := (vramByte p (tile + 2 * (py % 8))).toNat
  let high := (vramByte p (tile + 2 * (py % 8) + 1)).toNat
  2 * (high / 2 ^ (7 - px % 8) % 2) + low / 2 ^ (7 - px % 8) % 2

/-- The background and window colour index of column `x` of line `ly` (R483, R484, R486). -/
def Obligations.BackgroundAndWindowIndex : Prop :=
  ∀ (p : Ppu) (ly x : Nat), ly < 144 → x < 160 →
    let window := p.lcdc.getLsbD 5 = true ∧ p.wy.toNat ≤ ly ∧ p.wx.toNat ≤ 166 ∧ p.wx.toNat ≤ x + 7
    (p.lcdc.getLsbD 0 = false → p.bgIdx ly x = 0) ∧
    (p.lcdc.getLsbD 0 = true → window →
      (p.bgIdx ly x).toNat =
        tilePixelInNumbers p (if p.lcdc.getLsbD 6 then 0x9C00 else 0x9800) (ly - p.wy.toNat) (x + 7 - p.wx.toNat)) ∧
    (p.lcdc.getLsbD 0 = true → ¬window →
      (p.bgIdx ly x).toNat =
        tilePixelInNumbers p (if p.lcdc.getLsbD 3 then 0x9C00 else 0x9800) ((ly + p.scy.toNat) % 256)
          ((x + p.scx.toNat) % 256))

/-- The shade a palette register gives a colour index, in numbers (R485). -/
def shadeInNumbers (pal : Byte) (i : BitVec 2) : BitVec 2 := BitVec.ofNat 2 (pal.toNat / 4 ^ i.toNat)

/-- A rendered line: with sprites off every pixel is the background index through BGP; with sprites on it is the pixel of the
selected sprite of lowest OAM index that draws there, else the background's; no other cell of the framebuffer changes. A
sprite draws at a column of its eight where its colour index is not 0 and, with attribute bit 7 set, the background index
there is 0; its pixel goes through OBP1 with attribute bit 4 set, else through OBP0 (R480, R485, R491, R492). -/
def Obligations.RenderedLine : Prop :=
  ∀ (p : Ppu) (ly x : Nat), ly < 144 → x < 160 →
    let cell := Cells.read (p.renderScanline ly) (160 * ly + x)
    let background := shadeInNumbers p.bgp (p.bgIdx ly x)
    (p.lcdc.getLsbD 1 = false → cell = background) ∧
    (p.lcdc.getLsbD 1 = true →
      cell =
        match (p.selectedSprites ly).reverse.find? fun o =>
            decide
              (o.x.toNat ≤ x + 8 ∧ x < o.x.toNat ∧ p.spriteIdx ly o (x + 8 - o.x.toNat) ≠ 0 ∧
                (o.attr.getLsbD 7 = true → p.bgIdx ly x = 0)) with
        | none => background
        | some o =>
          shadeInNumbers (if o.attr.getLsbD 4 then p.obp1 else p.obp0) (p.spriteIdx ly o (x + 8 - o.x.toNat))) ∧
    ∀ k, k < 160 * ly ∨ 160 * ly + 160 ≤ k → Cells.read (p.renderScanline ly) k = Cells.read p.fb k

/-- An OAM entry is its four bytes Y, X, tile index and flags (10_state.md R36). Sprite selection and the pixel a sprite
shows (R490, R491): at most ten entries, all on the line, those of highest OAM index; the pixel of column `k`, with its
flips and the tile pair of the tall mode. -/
def Obligations.SpriteSelectionAndPixel : Prop :=
  (∀ (p : Ppu) (i : Nat),
     p.sprite i =
       { y := Cells.read p.oam (4 * i), x := Cells.read p.oam (4 * i + 1), tile := Cells.read p.oam (4 * i + 2)
         attr := Cells.read p.oam (4 * i + 3) }) ∧
  ∀ (p : Ppu) (ly : Nat), ly < 144 →
    let height := if p.lcdc.getLsbD 2 then 16 else 8
    let onLine (i : Nat) : Prop :=
      (Cells.read p.oam (4 * i)).toNat ≤ ly + 16 ∧ ly + 16 < (Cells.read p.oam (4 * i)).toNat + height
    (∃ l : List Nat,
      p.selectedSprites ly = l.map p.sprite ∧ l.Pairwise (fun i j => j < i) ∧ l.length ≤ 10 ∧
      (∀ i ∈ l, i < 40 ∧ onLine i) ∧ ∀ i, i < 40 → onLine i → i ∉ l → l.length = 10 ∧ ∀ j ∈ l, i < j) ∧
    ∀ (o : Sprite) (k : Nat), o.y.toNat ≤ ly + 16 → ly + 16 < o.y.toNat + height → k < 8 →
      let row := if o.attr.getLsbD 6 then o.y.toNat + height - 1 - (ly + 16) else ly + 16 - o.y.toNat
      let tile := if p.lcdc.getLsbD 2 then o.tile.toNat / 2 * 2 else o.tile.toNat
      let column := if o.attr.getLsbD 5 then k else 7 - k
      (p.spriteIdx ly o k).toNat =
        2 * ((vramByte p (0x8000 + 16 * tile + 2 * row + 1)).toNat / 2 ^ column % 2) +
          (vramByte p (0x8000 + 16 * tile + 2 * row)).toNat / 2 ^ column % 2

/-! ### Invariants and whole-machine rules -/

/-- Every memory block stays in canonical form and inside its size, whatever the step does. -/
def Obligations.MemoryStaysCanonical : Prop :=
  ∀ s t : State, s.memoryOk → step s = .next t → t.memoryOk

/-- The ranges of the counters, the PPU's line, mode and clock, the bank registers and the FATAL record are kept by every
step (R28, R401, R425, R432, R433, R462, R477, R121). -/
def Obligations.CountersStayInRange : Prop :=
  ∀ s t : State, s.cpuOk → s.clocksOk → s.ppuOk → s.cartOk → step s = .next t →
    t.cpuOk ∧ t.clocksOk ∧ t.ppuOk ∧ t.cartOk

/-- The invariants hold after reset, and after power-on with any launch parameters that give a machine. -/
def Obligations.InvariantsHoldAtReset : Prop :=
  (State.reset.memoryOk ∧ State.reset.cpuOk ∧ State.reset.clocksOk ∧ State.reset.ppuOk ∧ State.reset.cartOk) ∧
  ∀ (p : Launch) (s : State), powerOn p = .ok s → s.memoryOk ∧ s.cpuOk ∧ s.clocksOk ∧ s.ppuOk ∧ s.cartOk

/-- What can only go one way: the boot overlay never comes back, bytes of the serial sink are never taken away, the
cartridge's image and its header's constants never change, published frames are never taken back (R88, R84, R110, R505),
and RtcNow never decreases (R141). -/
def Obligations.OneWayState : Prop :=
  ∀ s t : State, step s = .next t →
    (s.bus.bootEnabled = false → t.bus.bootEnabled = false) ∧
    s.bus.serialSink <+: t.bus.serialSink ∧
    t.cart.image = s.cart.image ∧ t.cart.imageSize = s.cart.imageSize ∧ t.cart.variant = s.cart.variant ∧
    t.cart.hasRtc = s.cart.hasRtc ∧ t.cart.romBanks = s.cart.romBanks ∧ t.cart.ramSize = s.cart.ramSize ∧
    t.env.bootImage = s.env.bootImage ∧ t.env.stop = s.env.stop ∧
    s.ppu.frames ≤ t.ppu.frames ∧ s.env.rtcNow ≤ t.env.rtcNow

/-- Whether a step writes DIV (0xFF04): its dispatch by one of the two pushes, or its instruction by one of its stores. -/
def writesDiv (s : State) : Bool :=
  let u := (afterHostTurn s).delayedEnable
  if u.dispatches then decide (u.cpu.sp - 1 = 0xFF04 ∨ u.cpu.sp - 2 = 0xFF04)
  else !u.wake.cpu.halted && (u.wake.fetchedInstr.stores u.wake.afterFetch).any fun w => decide (w.1 = 0xFF04)

/-- The timer sees exactly the cycles the CPU step returned (R440): after a step of `c` cycles the system counter has moved
by `c`, from 0 when the step wrote DIV (R435) and from its old value when it did not. The host's turn before the step is
`afterHostTurn` (Log 2). -/
def Obligations.CounterMovesByTheCycles : Prop :=
  ∀ (s t : State) (c : Nat), step s = .next t → t.cycles = some c →
    t.timer.sysctr = (if writesDiv s then 0 else s.timer.sysctr) + BitVec.ofNat 16 c

/-- The picture is output only: two machines that differ in nothing but the framebuffer, the published frame and the frame
counter take the same step, up to those three (R508, R93: no read returns them). -/
def Obligations.PictureIsNeverRead : Prop :=
  ∀ (s t : State) (fb out : Frame) (n : Nat),
    let repaint (u : State) (fb out : Frame) (n : Nat) : State :=
      { u with ppu := { u.ppu with fb := fb, frameOut := out, frames := n } }
    step s = .next t →
    ∃ fb' out' n', step (repaint s fb out n) = .next (repaint t fb' out' n')

/-- Reset (R41, R521): the register values of the two profiles, and with the default parameters and a blank 32 KiB cartridge
(the model's choice, Log 4 to 6) `State.reset` is the machine the procedure gives. -/
def Obligations.ResetProfiles : Prop :=
  powerOn Launch.default = .ok State.reset ∧
  ∀ (p : Launch) (s : State), powerOn p = .ok s →
    s.cpu.ime = false ∧ s.cpu.imeDelay = 0 ∧ s.cpu.halted = false ∧ s.cpu.haltBug = false ∧ s.cpu.fatal = false ∧
    s.ic = { iflag := 0, ie := 0 } ∧ s.timer = { sysctr := 0, tima := 0, tma := 0, tac := 0, reloadDelay := 0 } ∧
    s.ppu.stat = 0x02 ∧ s.ppu.scy = 0 ∧ s.ppu.scx = 0 ∧ s.ppu.ly = 0 ∧ s.ppu.lyc = 0 ∧ s.ppu.wy = 0 ∧ s.ppu.wx = 0 ∧
    s.ppu.dma = 0 ∧ s.ppu.obp0 = 0 ∧ s.ppu.obp1 = 0 ∧ s.ppu.modeClock = 0 ∧
    s.bus.sb = 0 ∧ s.bus.sc = 0 ∧ s.bus.joypSel = 0 ∧ s.bus.serialSink = [] ∧
    s.cart.romBankReg = 1 ∧ s.cart.secReg = 0 ∧ s.cart.ramEnable = false ∧ s.cart.bankMode = false ∧
    s.cart.rtcLive = { seconds := 0, minutes := 0, hours := 0, dayLow := 0, dayHigh := 0 } ∧
    s.cart.rtcLatched = { seconds := 0, minutes := 0, hours := 0, dayLow := 0, dayHigh := 0 } ∧
    s.cart.rtcBase = p.rtcNow ∧ s.cart.latchPrev = 0xFF ∧
    (p.bootImage = none →
      s.cpu.a = 0x01 ∧ s.cpu.f.toByte = 0xB0 ∧ s.cpu.bc = 0x0013 ∧ s.cpu.de = 0x00D8 ∧ s.cpu.hl = 0x014D ∧
      s.cpu.sp = 0xFFFE ∧ s.cpu.pc = 0x0100 ∧ s.ppu.lcdc = 0x91 ∧ s.ppu.bgp = 0xFC ∧ s.bus.bootEnabled = false) ∧
    (p.bootImage ≠ none →
      s.cpu.a = 0 ∧ s.cpu.f.toByte = 0 ∧ s.cpu.bc = 0 ∧ s.cpu.de = 0 ∧ s.cpu.hl = 0 ∧
      s.cpu.sp = 0 ∧ s.cpu.pc = 0 ∧ s.ppu.lcdc = 0 ∧ s.ppu.bgp = 0 ∧ s.bus.bootEnabled = true) ∧
    (p.ram = .zero →
      s.ppu.vram = [] ∧ s.ppu.oam = [] ∧ s.bus.wram = [] ∧ s.bus.hram = [] ∧ s.cart.cram = [] ∧ s.ppu.fb = [])
end

