-- ==== Sys2Proof/Laws/Cells.lean ====
section
/-!
SUPPORT. Laws/Cells.lean: reading after writing one cell, and that writing keeps the canonical form and the bound.
-/

namespace Sys2Proof.Machine

variable {w : Nat}

theorem Cells.read_erase (m : Cells w) (k j : Nat) :
    Cells.read (m.erase k) j = if j = k then Cells.unlisted w else Cells.read m j := by
  induction m with
  | nil => simp [Cells.erase, Cells.read]
  | cons p rest ih =>
    obtain ⟨i, x⟩ := p
    by_cases hik : i = k
    · subst hik
      have : Cells.erase ((i, x) :: rest) i = Cells.erase rest i := by simp [Cells.erase]
      rw [this, ih]
      by_cases hj : j = i
      · simp [hj]
      · simp [hj, Cells.read, Ne.symm hj]
    · have : Cells.erase ((i, x) :: rest) k = (i, x) :: Cells.erase rest k := by simp [Cells.erase, hik]
      rw [this]
      by_cases hj : i = j
      · subst hj
        simp [Cells.read, hik]
      · simp [Cells.read, hj, ih]

theorem Cells.read_insertCell (m : Cells w) (k j : Nat) (v : BitVec w) (h : ∀ p ∈ m, p.1 ≠ k) :
    Cells.read (m.insertCell k v) j = if j = k then v else Cells.read m j := by
  induction m with
  | nil =>
    by_cases hj : k = j
    · simp [Cells.insertCell, Cells.read, hj]
    · simp [Cells.insertCell, Cells.read, hj, Ne.symm hj]
  | cons p rest ih =>
    obtain ⟨i, x⟩ := p
    have hik : i ≠ k := h (i, x) (by simp)
    have ih' := ih fun p hp => h p (by simp [hp])
    by_cases hlt : k < i
    · rw [Cells.insertCell, if_pos hlt]
      by_cases hj : k = j
      · simp [Cells.read, hj]
      · simp [Cells.read, hj, Ne.symm hj]
    · rw [Cells.insertCell, if_neg hlt]
      by_cases hj : i = j
      · subst hj
        simp [Cells.read, hik]
      · simp [Cells.read, hj, ih']

theorem Cells.erase_fresh (m : Cells w) (k : Nat) : ∀ p ∈ m.erase k, p.1 ≠ k := by
  intro p hp
  simpa [Cells.erase] using (List.mem_filter.mp hp).2

/-- Reading after writing one cell: the value at that cell, every other cell as before. -/
@[simp] theorem Cells.read_write (m : Cells w) (k j : Nat) (v : BitVec w) :
    Cells.read (m.write k v) j = if j = k then v else Cells.read m j := by
  unfold Cells.write
  split
  · next h => rw [Cells.read_erase, h]
  · rw [Cells.read_insertCell _ _ _ _ (Cells.erase_fresh m k), Cells.read_erase]
    split <;> rfl

theorem Cells.read_nil (k : Nat) : Cells.read ([] : Cells w) k = 0 := rfl

theorem Cells.wf_nil : Cells.wf ([] : Cells w) := by simp [Cells.wf]

theorem Cells.wf_erase {m : Cells w} (h : m.wf) (k : Nat) : (m.erase k).wf :=
  ⟨h.1.sublist List.filter_sublist, fun p hp => h.2 p (List.mem_filter.mp hp).1⟩

theorem Cells.below_erase {m : Cells w} {n : Nat} (h : m.below n) (k : Nat) : (m.erase k).below n :=
  fun p hp => h p (List.mem_filter.mp hp).1

theorem Cells.mem_insertCell {m : Cells w} {k : Nat} {v : BitVec w} {p : Nat × BitVec w} :
    p ∈ m.insertCell k v ↔ p = (k, v) ∨ p ∈ m := by
  induction m with
  | nil => simp [Cells.insertCell]
  | cons q rest ih =>
    obtain ⟨i, x⟩ := q
    unfold Cells.insertCell
    split
    · simp
    · simp only [List.mem_cons, ih]
      tauto

theorem Cells.wf_insertCell {m : Cells w} (h : m.wf) {k : Nat} {v : BitVec w} (hv : v ≠ Cells.unlisted w)
    (hk : ∀ p ∈ m, p.1 ≠ k) : (m.insertCell k v).wf := by
  refine ⟨?_, fun p hp => ?_⟩
  · obtain ⟨hs, -⟩ := h
    induction m with
    | nil => simp [Cells.insertCell]
    | cons q rest ih =>
      obtain ⟨i, x⟩ := q
      rw [List.pairwise_cons] at hs
      unfold Cells.insertCell
      split
      · next hlt =>
        refine List.pairwise_cons.mpr ⟨?_, List.pairwise_cons.mpr hs⟩
        intro p hp
        rcases List.mem_cons.mp hp with rfl | hp
        · exact hlt
        · exact lt_trans hlt (hs.1 p hp)
      · next hlt =>
        have hik : i ≠ k := hk (i, x) (by simp)
        refine List.pairwise_cons.mpr ⟨?_, ih (fun p hp => hk p (by simp [hp])) hs.2⟩
        intro p hp
        rcases Cells.mem_insertCell.mp hp with rfl | hp
        · simp only; omega
        · exact hs.1 p hp
  · rcases Cells.mem_insertCell.mp hp with rfl | hp
    · exact hv
    · exact h.2 p hp

/-- Writing keeps the canonical form. -/
theorem Cells.wf_write {m : Cells w} (h : m.wf) (k : Nat) (v : BitVec w) : (m.write k v).wf := by
  unfold Cells.write
  split
  · exact Cells.wf_erase h k
  · next hv => exact Cells.wf_insertCell (Cells.wf_erase h k) hv (Cells.erase_fresh m k)

/-- Writing inside a block keeps every index inside it. -/
theorem Cells.below_write {m : Cells w} {n : Nat} (h : m.below n) {k : Nat} (hk : k < n) (v : BitVec w) :
    (m.write k v).below n := by
  unfold Cells.write
  split
  · exact Cells.below_erase h k
  · intro p hp
    rcases Cells.mem_insertCell.mp hp with rfl | hp
    · exact hk
    · exact Cells.below_erase h k p hp

/-- Cells written from a list are in canonical form, from the first index on and below the last. -/
theorem Cells.wf_ofList (l : List (BitVec w)) (k : Nat) :
    (Cells.ofList k l).wf ∧ ∀ p ∈ Cells.ofList k l, k ≤ p.1 ∧ p.1 < k + l.length := by
  induction l generalizing k with
  | nil => simp [Cells.ofList, Cells.wf]
  | cons v vs ih =>
    obtain ⟨⟨hs, hne⟩, hb⟩ := ih (k + 1)
    unfold Cells.ofList
    split
    · refine ⟨⟨hs, hne⟩, fun p hp => ?_⟩
      have := hb p hp
      simp only [List.length_cons]
      omega
    · next hv =>
      refine ⟨⟨List.pairwise_cons.mpr ⟨fun p hp => ?_, hs⟩, fun p hp => ?_⟩, fun p hp => ?_⟩
      · have := hb p hp
        simp only
        omega
      · rcases List.mem_cons.mp hp with rfl | hp
        · exact hv
        · exact hne p hp
      · rcases List.mem_cons.mp hp with rfl | hp
        · simp
        · have := hb p hp
          simp only [List.length_cons]
          omega

/-- A list of zeros lists nothing. -/
theorem Cells.ofList_replicate (n k : Nat) : Cells.ofList k (List.replicate n (0 : BitVec w)) = [] := by
  induction n generalizing k with
  | zero => rfl
  | succ n ih => simpa [List.replicate_succ, Cells.ofList, Cells.unlisted] using ih (k + 1)

end Sys2Proof.Machine
end

