-- ==== Sys2Proof/Laws/State.lean ====
section
/-!
SUPPORT. Laws/State.lean: what each named update does to each field of State, so that no later proof unfolds a record
update.
-/

namespace Sys2Proof.Machine

@[simp] theorem State.setReg_cpu (s : State) (r : Reg8) (v : Byte) : (s.setReg r v).cpu = s.cpu.setReg r v := rfl

@[simp] theorem State.setReg_ic (s : State) (r : Reg8) (v : Byte) : (s.setReg r v).ic = s.ic := rfl

@[simp] theorem State.setReg_timer (s : State) (r : Reg8) (v : Byte) : (s.setReg r v).timer = s.timer := rfl

@[simp] theorem State.setReg_ppu (s : State) (r : Reg8) (v : Byte) : (s.setReg r v).ppu = s.ppu := rfl

@[simp] theorem State.setReg_bus (s : State) (r : Reg8) (v : Byte) : (s.setReg r v).bus = s.bus := rfl

@[simp] theorem State.setReg_cart (s : State) (r : Reg8) (v : Byte) : (s.setReg r v).cart = s.cart := rfl

@[simp] theorem State.setReg_env (s : State) (r : Reg8) (v : Byte) : (s.setReg r v).env = s.env := rfl

@[simp] theorem State.setReg_cycles (s : State) (r : Reg8) (v : Byte) : (s.setReg r v).cycles = s.cycles := rfl

@[simp] theorem State.setPair_cpu (s : State) (p : Pair) (v : Word) : (s.setPair p v).cpu = s.cpu.setPair p v := rfl

@[simp] theorem State.setPair_ic (s : State) (p : Pair) (v : Word) : (s.setPair p v).ic = s.ic := rfl

@[simp] theorem State.setPair_timer (s : State) (p : Pair) (v : Word) : (s.setPair p v).timer = s.timer := rfl

@[simp] theorem State.setPair_ppu (s : State) (p : Pair) (v : Word) : (s.setPair p v).ppu = s.ppu := rfl

@[simp] theorem State.setPair_bus (s : State) (p : Pair) (v : Word) : (s.setPair p v).bus = s.bus := rfl

@[simp] theorem State.setPair_cart (s : State) (p : Pair) (v : Word) : (s.setPair p v).cart = s.cart := rfl

@[simp] theorem State.setPair_env (s : State) (p : Pair) (v : Word) : (s.setPair p v).env = s.env := rfl

@[simp] theorem State.setPair_cycles (s : State) (p : Pair) (v : Word) : (s.setPair p v).cycles = s.cycles := rfl

@[simp] theorem State.setFlags_cpu (s : State) (f : Flags) : (s.setFlags f).cpu = { s.cpu with f := f } := rfl

@[simp] theorem State.setFlags_ic (s : State) (f : Flags) : (s.setFlags f).ic = s.ic := rfl

@[simp] theorem State.setFlags_timer (s : State) (f : Flags) : (s.setFlags f).timer = s.timer := rfl

@[simp] theorem State.setFlags_ppu (s : State) (f : Flags) : (s.setFlags f).ppu = s.ppu := rfl

@[simp] theorem State.setFlags_bus (s : State) (f : Flags) : (s.setFlags f).bus = s.bus := rfl

@[simp] theorem State.setFlags_cart (s : State) (f : Flags) : (s.setFlags f).cart = s.cart := rfl

@[simp] theorem State.setFlags_env (s : State) (f : Flags) : (s.setFlags f).env = s.env := rfl

@[simp] theorem State.setFlags_cycles (s : State) (f : Flags) : (s.setFlags f).cycles = s.cycles := rfl

@[simp] theorem State.setAccFlags_cpu (s : State) (r : Byte × Flags) :
    (s.setAccFlags r).cpu = { s.cpu with a := r.1, f := r.2 } := rfl

@[simp] theorem State.setAccFlags_ic (s : State) (r : Byte × Flags) : (s.setAccFlags r).ic = s.ic := rfl

@[simp] theorem State.setAccFlags_timer (s : State) (r : Byte × Flags) : (s.setAccFlags r).timer = s.timer := rfl

@[simp] theorem State.setAccFlags_ppu (s : State) (r : Byte × Flags) : (s.setAccFlags r).ppu = s.ppu := rfl

@[simp] theorem State.setAccFlags_bus (s : State) (r : Byte × Flags) : (s.setAccFlags r).bus = s.bus := rfl

@[simp] theorem State.setAccFlags_cart (s : State) (r : Byte × Flags) : (s.setAccFlags r).cart = s.cart := rfl

@[simp] theorem State.setAccFlags_env (s : State) (r : Byte × Flags) : (s.setAccFlags r).env = s.env := rfl

@[simp] theorem State.setAccFlags_cycles (s : State) (r : Byte × Flags) : (s.setAccFlags r).cycles = s.cycles := rfl

@[simp] theorem State.setPc_cpu (s : State) (v : Word) : (s.setPc v).cpu = { s.cpu with pc := v } := rfl

@[simp] theorem State.setPc_ic (s : State) (v : Word) : (s.setPc v).ic = s.ic := rfl

@[simp] theorem State.setPc_timer (s : State) (v : Word) : (s.setPc v).timer = s.timer := rfl

@[simp] theorem State.setPc_ppu (s : State) (v : Word) : (s.setPc v).ppu = s.ppu := rfl

@[simp] theorem State.setPc_bus (s : State) (v : Word) : (s.setPc v).bus = s.bus := rfl

@[simp] theorem State.setPc_cart (s : State) (v : Word) : (s.setPc v).cart = s.cart := rfl

@[simp] theorem State.setPc_env (s : State) (v : Word) : (s.setPc v).env = s.env := rfl

@[simp] theorem State.setPc_cycles (s : State) (v : Word) : (s.setPc v).cycles = s.cycles := rfl

@[simp] theorem State.setSp_cpu (s : State) (v : Word) : (s.setSp v).cpu = { s.cpu with sp := v } := rfl

@[simp] theorem State.setSp_ic (s : State) (v : Word) : (s.setSp v).ic = s.ic := rfl

@[simp] theorem State.setSp_timer (s : State) (v : Word) : (s.setSp v).timer = s.timer := rfl

@[simp] theorem State.setSp_ppu (s : State) (v : Word) : (s.setSp v).ppu = s.ppu := rfl

@[simp] theorem State.setSp_bus (s : State) (v : Word) : (s.setSp v).bus = s.bus := rfl

@[simp] theorem State.setSp_cart (s : State) (v : Word) : (s.setSp v).cart = s.cart := rfl

@[simp] theorem State.setSp_env (s : State) (v : Word) : (s.setSp v).env = s.env := rfl

@[simp] theorem State.setSp_cycles (s : State) (v : Word) : (s.setSp v).cycles = s.cycles := rfl

@[simp] theorem State.request_cpu (s : State) (n : Nat) : (s.request n).cpu = s.cpu := rfl

@[simp] theorem State.request_ic (s : State) (n : Nat) : (s.request n).ic = s.ic.request n := rfl

@[simp] theorem State.request_timer (s : State) (n : Nat) : (s.request n).timer = s.timer := rfl

@[simp] theorem State.request_ppu (s : State) (n : Nat) : (s.request n).ppu = s.ppu := rfl

@[simp] theorem State.request_bus (s : State) (n : Nat) : (s.request n).bus = s.bus := rfl

@[simp] theorem State.request_cart (s : State) (n : Nat) : (s.request n).cart = s.cart := rfl

@[simp] theorem State.request_env (s : State) (n : Nat) : (s.request n).env = s.env := rfl

@[simp] theorem State.request_cycles (s : State) (n : Nat) : (s.request n).cycles = s.cycles := rfl

@[simp] theorem State.writeOam_cpu (s : State) (i : Nat) (v : Byte) : (s.writeOam i v).cpu = s.cpu := rfl

@[simp] theorem State.writeOam_ic (s : State) (i : Nat) (v : Byte) : (s.writeOam i v).ic = s.ic := rfl

@[simp] theorem State.writeOam_timer (s : State) (i : Nat) (v : Byte) : (s.writeOam i v).timer = s.timer := rfl

@[simp] theorem State.writeOam_ppu (s : State) (i : Nat) (v : Byte) :
    (s.writeOam i v).ppu = { s.ppu with oam := Cells.write s.ppu.oam i v } := rfl

@[simp] theorem State.writeOam_bus (s : State) (i : Nat) (v : Byte) : (s.writeOam i v).bus = s.bus := rfl

@[simp] theorem State.writeOam_cart (s : State) (i : Nat) (v : Byte) : (s.writeOam i v).cart = s.cart := rfl

@[simp] theorem State.writeOam_env (s : State) (i : Nat) (v : Byte) : (s.writeOam i v).env = s.env := rfl

@[simp] theorem State.writeOam_cycles (s : State) (i : Nat) (v : Byte) : (s.writeOam i v).cycles = s.cycles := rfl

@[simp] theorem State.enterMode_cpu (s : State) (m : BitVec 2) : (s.enterMode m).cpu = s.cpu := rfl

@[simp] theorem State.enterMode_ic (s : State) (m : BitVec 2) :
    (s.enterMode m).ic = modeRequests s.ppu.stat m s.ic := rfl

@[simp] theorem State.enterMode_timer (s : State) (m : BitVec 2) : (s.enterMode m).timer = s.timer := rfl

@[simp] theorem State.enterMode_ppu (s : State) (m : BitVec 2) : (s.enterMode m).ppu = s.ppu.withMode m := rfl

@[simp] theorem State.enterMode_bus (s : State) (m : BitVec 2) : (s.enterMode m).bus = s.bus := rfl

@[simp] theorem State.enterMode_cart (s : State) (m : BitVec 2) : (s.enterMode m).cart = s.cart := rfl

@[simp] theorem State.enterMode_env (s : State) (m : BitVec 2) : (s.enterMode m).env = s.env := rfl

@[simp] theorem State.enterMode_cycles (s : State) (m : BitVec 2) : (s.enterMode m).cycles = s.cycles := rfl

@[simp] theorem State.frameComplete_cpu (s : State) : (s.frameComplete).cpu = s.cpu := rfl

@[simp] theorem State.frameComplete_ic (s : State) : (s.frameComplete).ic = s.ic := rfl

@[simp] theorem State.frameComplete_timer (s : State) : (s.frameComplete).timer = s.timer := rfl

@[simp] theorem State.frameComplete_ppu (s : State) :
    (s.frameComplete).ppu = { s.ppu with frameOut := s.ppu.fb, frames := s.ppu.frames + 1 } := rfl

@[simp] theorem State.frameComplete_bus (s : State) : (s.frameComplete).bus = s.bus := rfl

@[simp] theorem State.frameComplete_cart (s : State) : (s.frameComplete).cart = s.cart := rfl

@[simp] theorem State.frameComplete_env (s : State) : (s.frameComplete).env = s.env := rfl

@[simp] theorem State.frameComplete_cycles (s : State) : (s.frameComplete).cycles = s.cycles := rfl

@[simp] theorem State.spendClock_cpu (s : State) (n : Nat) : (s.spendClock n).cpu = s.cpu := rfl

@[simp] theorem State.spendClock_ic (s : State) (n : Nat) : (s.spendClock n).ic = s.ic := rfl

@[simp] theorem State.spendClock_timer (s : State) (n : Nat) : (s.spendClock n).timer = s.timer := rfl

@[simp] theorem State.spendClock_ppu (s : State) (n : Nat) :
    (s.spendClock n).ppu = { s.ppu with modeClock := s.ppu.modeClock - n } := rfl

@[simp] theorem State.spendClock_bus (s : State) (n : Nat) : (s.spendClock n).bus = s.bus := rfl

@[simp] theorem State.spendClock_cart (s : State) (n : Nat) : (s.spendClock n).cart = s.cart := rfl

@[simp] theorem State.spendClock_env (s : State) (n : Nat) : (s.spendClock n).env = s.env := rfl

@[simp] theorem State.spendClock_cycles (s : State) (n : Nat) : (s.spendClock n).cycles = s.cycles := rfl

@[simp] theorem State.dropTop_cpu (s : State) : (s.dropTop).cpu = { s.cpu with sp := s.cpu.sp + 2 } := rfl

@[simp] theorem State.dropTop_ic (s : State) : (s.dropTop).ic = s.ic := rfl

@[simp] theorem State.dropTop_timer (s : State) : (s.dropTop).timer = s.timer := rfl

@[simp] theorem State.dropTop_ppu (s : State) : (s.dropTop).ppu = s.ppu := rfl

@[simp] theorem State.dropTop_bus (s : State) : (s.dropTop).bus = s.bus := rfl

@[simp] theorem State.dropTop_cart (s : State) : (s.dropTop).cart = s.cart := rfl

@[simp] theorem State.dropTop_env (s : State) : (s.dropTop).env = s.env := rfl

@[simp] theorem State.dropTop_cycles (s : State) : (s.dropTop).cycles = s.cycles := rfl

@[simp] theorem State.afterFetch_ic (s : State) : (s.afterFetch).ic = s.ic := rfl

@[simp] theorem State.afterFetch_timer (s : State) : (s.afterFetch).timer = s.timer := rfl

@[simp] theorem State.afterFetch_ppu (s : State) : (s.afterFetch).ppu = s.ppu := rfl

@[simp] theorem State.afterFetch_bus (s : State) : (s.afterFetch).bus = s.bus := rfl

@[simp] theorem State.afterFetch_cart (s : State) : (s.afterFetch).cart = s.cart := rfl

@[simp] theorem State.afterFetch_env (s : State) : (s.afterFetch).env = s.env := rfl

@[simp] theorem State.afterFetch_cycles (s : State) : (s.afterFetch).cycles = s.cycles := rfl

/-- Where the handler starts, only the CPU has changed. -/
theorem State.handlerStart_eq (s before : State) :
    s.handlerStart before = { s with cpu := (s.handlerStart before).cpu } := by
  unfold State.handlerStart
  split <;> rfl

theorem State.handlerStart_valid {s : State} (h : s.fetchedInstr.invalidOpcode? = none) (before : State) :
    s.handlerStart before = s.afterFetch := by
  unfold State.handlerStart
  rw [h]
  rfl

theorem State.handlerStart_invalid {s : State} {op : Byte} (h : s.fetchedInstr.invalidOpcode? = some op) (before : State) :
    s.handlerStart before = s.raiseStart before := by
  unfold State.handlerStart
  rw [h]
  rfl

/-- Where the handler starts, PC and the delay are those of an ordinary fetch, and the registers are untouched. -/
theorem State.handlerStart_cpu (s before : State) :
    (s.handlerStart before).cpu =
      { s.afterFetch.cpu with
        ime := (s.handlerStart before).cpu.ime, halted := (s.handlerStart before).cpu.halted
        haltBug := (s.handlerStart before).cpu.haltBug } := by
  unfold State.handlerStart
  split <;> rfl

@[simp] theorem State.hostAct_cpu (s : State) (h : HostAction) : (s.hostAct h).cpu = s.cpu := rfl

@[simp] theorem State.hostAct_ic (s : State) (h : HostAction) :
    (s.hostAct h).ic = s.ic.requestIf h.requestJoypad 4 := rfl

@[simp] theorem State.hostAct_timer (s : State) (h : HostAction) : (s.hostAct h).timer = s.timer := rfl

@[simp] theorem State.hostAct_ppu (s : State) (h : HostAction) : (s.hostAct h).ppu = s.ppu := rfl

@[simp] theorem State.hostAct_bus (s : State) (h : HostAction) : (s.hostAct h).bus = s.bus := rfl

@[simp] theorem State.hostAct_cart (s : State) (h : HostAction) : (s.hostAct h).cart = s.cart := rfl

@[simp] theorem State.hostAct_env (s : State) (h : HostAction) :
    (s.hostAct h).env = { s.env with joypad := h.joypad.getD s.env.joypad, rtcNow := s.env.rtcNow + h.seconds } := rfl

@[simp] theorem State.hostAct_cycles (s : State) (h : HostAction) : (s.hostAct h).cycles = s.cycles := rfl

@[simp] theorem Cpu.setBc_a (k : Cpu) (v : Word) : (k.setBc v).a = k.a := rfl

@[simp] theorem Cpu.setBc_b (k : Cpu) (v : Word) : (k.setBc v).b = v.hi := rfl

@[simp] theorem Cpu.setBc_c (k : Cpu) (v : Word) : (k.setBc v).c = v.lo := rfl

@[simp] theorem Cpu.setBc_d (k : Cpu) (v : Word) : (k.setBc v).d = k.d := rfl

@[simp] theorem Cpu.setBc_e (k : Cpu) (v : Word) : (k.setBc v).e = k.e := rfl

@[simp] theorem Cpu.setBc_h (k : Cpu) (v : Word) : (k.setBc v).h = k.h := rfl

@[simp] theorem Cpu.setBc_l (k : Cpu) (v : Word) : (k.setBc v).l = k.l := rfl

@[simp] theorem Cpu.setBc_f (k : Cpu) (v : Word) : (k.setBc v).f = k.f := rfl

@[simp] theorem Cpu.setBc_sp (k : Cpu) (v : Word) : (k.setBc v).sp = k.sp := rfl

@[simp] theorem Cpu.setBc_pc (k : Cpu) (v : Word) : (k.setBc v).pc = k.pc := rfl

@[simp] theorem Cpu.setBc_ime (k : Cpu) (v : Word) : (k.setBc v).ime = k.ime := rfl

@[simp] theorem Cpu.setBc_imeDelay (k : Cpu) (v : Word) : (k.setBc v).imeDelay = k.imeDelay := rfl

@[simp] theorem Cpu.setBc_halted (k : Cpu) (v : Word) : (k.setBc v).halted = k.halted := rfl

@[simp] theorem Cpu.setBc_haltBug (k : Cpu) (v : Word) : (k.setBc v).haltBug = k.haltBug := rfl

@[simp] theorem Cpu.setBc_fatal (k : Cpu) (v : Word) : (k.setBc v).fatal = k.fatal := rfl

@[simp] theorem Cpu.setBc_illegalOp (k : Cpu) (v : Word) : (k.setBc v).illegalOp = k.illegalOp := rfl

@[simp] theorem Cpu.setDe_a (k : Cpu) (v : Word) : (k.setDe v).a = k.a := rfl

@[simp] theorem Cpu.setDe_b (k : Cpu) (v : Word) : (k.setDe v).b = k.b := rfl

@[simp] theorem Cpu.setDe_c (k : Cpu) (v : Word) : (k.setDe v).c = k.c := rfl

@[simp] theorem Cpu.setDe_d (k : Cpu) (v : Word) : (k.setDe v).d = v.hi := rfl

@[simp] theorem Cpu.setDe_e (k : Cpu) (v : Word) : (k.setDe v).e = v.lo := rfl

@[simp] theorem Cpu.setDe_h (k : Cpu) (v : Word) : (k.setDe v).h = k.h := rfl

@[simp] theorem Cpu.setDe_l (k : Cpu) (v : Word) : (k.setDe v).l = k.l := rfl

@[simp] theorem Cpu.setDe_f (k : Cpu) (v : Word) : (k.setDe v).f = k.f := rfl

@[simp] theorem Cpu.setDe_sp (k : Cpu) (v : Word) : (k.setDe v).sp = k.sp := rfl

@[simp] theorem Cpu.setDe_pc (k : Cpu) (v : Word) : (k.setDe v).pc = k.pc := rfl

@[simp] theorem Cpu.setDe_ime (k : Cpu) (v : Word) : (k.setDe v).ime = k.ime := rfl

@[simp] theorem Cpu.setDe_imeDelay (k : Cpu) (v : Word) : (k.setDe v).imeDelay = k.imeDelay := rfl

@[simp] theorem Cpu.setDe_halted (k : Cpu) (v : Word) : (k.setDe v).halted = k.halted := rfl

@[simp] theorem Cpu.setDe_haltBug (k : Cpu) (v : Word) : (k.setDe v).haltBug = k.haltBug := rfl

@[simp] theorem Cpu.setDe_fatal (k : Cpu) (v : Word) : (k.setDe v).fatal = k.fatal := rfl

@[simp] theorem Cpu.setDe_illegalOp (k : Cpu) (v : Word) : (k.setDe v).illegalOp = k.illegalOp := rfl

@[simp] theorem Cpu.setHl_a (k : Cpu) (v : Word) : (k.setHl v).a = k.a := rfl

@[simp] theorem Cpu.setHl_b (k : Cpu) (v : Word) : (k.setHl v).b = k.b := rfl

@[simp] theorem Cpu.setHl_c (k : Cpu) (v : Word) : (k.setHl v).c = k.c := rfl

@[simp] theorem Cpu.setHl_d (k : Cpu) (v : Word) : (k.setHl v).d = k.d := rfl

@[simp] theorem Cpu.setHl_e (k : Cpu) (v : Word) : (k.setHl v).e = k.e := rfl

@[simp] theorem Cpu.setHl_h (k : Cpu) (v : Word) : (k.setHl v).h = v.hi := rfl

@[simp] theorem Cpu.setHl_l (k : Cpu) (v : Word) : (k.setHl v).l = v.lo := rfl

@[simp] theorem Cpu.setHl_f (k : Cpu) (v : Word) : (k.setHl v).f = k.f := rfl

@[simp] theorem Cpu.setHl_sp (k : Cpu) (v : Word) : (k.setHl v).sp = k.sp := rfl

@[simp] theorem Cpu.setHl_pc (k : Cpu) (v : Word) : (k.setHl v).pc = k.pc := rfl

@[simp] theorem Cpu.setHl_ime (k : Cpu) (v : Word) : (k.setHl v).ime = k.ime := rfl

@[simp] theorem Cpu.setHl_imeDelay (k : Cpu) (v : Word) : (k.setHl v).imeDelay = k.imeDelay := rfl

@[simp] theorem Cpu.setHl_halted (k : Cpu) (v : Word) : (k.setHl v).halted = k.halted := rfl

@[simp] theorem Cpu.setHl_haltBug (k : Cpu) (v : Word) : (k.setHl v).haltBug = k.haltBug := rfl

@[simp] theorem Cpu.setHl_fatal (k : Cpu) (v : Word) : (k.setHl v).fatal = k.fatal := rfl

@[simp] theorem Cpu.setHl_illegalOp (k : Cpu) (v : Word) : (k.setHl v).illegalOp = k.illegalOp := rfl

@[simp] theorem Cpu.setAf_a (k : Cpu) (v : Word) : (k.setAf v).a = v.hi := rfl

@[simp] theorem Cpu.setAf_b (k : Cpu) (v : Word) : (k.setAf v).b = k.b := rfl

@[simp] theorem Cpu.setAf_c (k : Cpu) (v : Word) : (k.setAf v).c = k.c := rfl

@[simp] theorem Cpu.setAf_d (k : Cpu) (v : Word) : (k.setAf v).d = k.d := rfl

@[simp] theorem Cpu.setAf_e (k : Cpu) (v : Word) : (k.setAf v).e = k.e := rfl

@[simp] theorem Cpu.setAf_h (k : Cpu) (v : Word) : (k.setAf v).h = k.h := rfl

@[simp] theorem Cpu.setAf_l (k : Cpu) (v : Word) : (k.setAf v).l = k.l := rfl

@[simp] theorem Cpu.setAf_f (k : Cpu) (v : Word) : (k.setAf v).f = Flags.ofByte v.lo := rfl

@[simp] theorem Cpu.setAf_sp (k : Cpu) (v : Word) : (k.setAf v).sp = k.sp := rfl

@[simp] theorem Cpu.setAf_pc (k : Cpu) (v : Word) : (k.setAf v).pc = k.pc := rfl

@[simp] theorem Cpu.setAf_ime (k : Cpu) (v : Word) : (k.setAf v).ime = k.ime := rfl

@[simp] theorem Cpu.setAf_imeDelay (k : Cpu) (v : Word) : (k.setAf v).imeDelay = k.imeDelay := rfl

@[simp] theorem Cpu.setAf_halted (k : Cpu) (v : Word) : (k.setAf v).halted = k.halted := rfl

@[simp] theorem Cpu.setAf_haltBug (k : Cpu) (v : Word) : (k.setAf v).haltBug = k.haltBug := rfl

@[simp] theorem Cpu.setAf_fatal (k : Cpu) (v : Word) : (k.setAf v).fatal = k.fatal := rfl

@[simp] theorem Cpu.setAf_illegalOp (k : Cpu) (v : Word) : (k.setAf v).illegalOp = k.illegalOp := rfl

@[simp] theorem Cpu.setReg_pc (k : Cpu) (r : Reg8) (v : Byte) : (k.setReg r v).pc = k.pc := by cases r <;> rfl

@[simp] theorem Cpu.setReg_ime (k : Cpu) (r : Reg8) (v : Byte) : (k.setReg r v).ime = k.ime := by cases r <;> rfl

@[simp] theorem Cpu.setReg_imeDelay (k : Cpu) (r : Reg8) (v : Byte) : (k.setReg r v).imeDelay = k.imeDelay := by cases r <;> rfl

@[simp] theorem Cpu.setReg_halted (k : Cpu) (r : Reg8) (v : Byte) : (k.setReg r v).halted = k.halted := by cases r <;> rfl

@[simp] theorem Cpu.setReg_haltBug (k : Cpu) (r : Reg8) (v : Byte) : (k.setReg r v).haltBug = k.haltBug := by cases r <;> rfl

@[simp] theorem Cpu.setReg_fatal (k : Cpu) (r : Reg8) (v : Byte) : (k.setReg r v).fatal = k.fatal := by cases r <;> rfl

@[simp] theorem Cpu.setReg_illegalOp (k : Cpu) (r : Reg8) (v : Byte) : (k.setReg r v).illegalOp = k.illegalOp := by cases r <;> rfl

@[simp] theorem Cpu.setPair_pc (k : Cpu) (p : Pair) (v : Word) : (k.setPair p v).pc = k.pc := by cases p <;> rfl

@[simp] theorem Cpu.setPair_ime (k : Cpu) (p : Pair) (v : Word) : (k.setPair p v).ime = k.ime := by cases p <;> rfl

@[simp] theorem Cpu.setPair_imeDelay (k : Cpu) (p : Pair) (v : Word) : (k.setPair p v).imeDelay = k.imeDelay := by cases p <;> rfl

@[simp] theorem Cpu.setPair_halted (k : Cpu) (p : Pair) (v : Word) : (k.setPair p v).halted = k.halted := by cases p <;> rfl

@[simp] theorem Cpu.setPair_haltBug (k : Cpu) (p : Pair) (v : Word) : (k.setPair p v).haltBug = k.haltBug := by cases p <;> rfl

@[simp] theorem Cpu.setPair_fatal (k : Cpu) (p : Pair) (v : Word) : (k.setPair p v).fatal = k.fatal := by cases p <;> rfl

@[simp] theorem Cpu.setPair_illegalOp (k : Cpu) (p : Pair) (v : Word) : (k.setPair p v).illegalOp = k.illegalOp := by cases p <;> rfl

@[simp] theorem Cpu.setStackPair_pc (k : Cpu) (p : StackPair) (v : Word) : (k.setStackPair p v).pc = k.pc := by cases p <;> rfl

@[simp] theorem Cpu.setStackPair_ime (k : Cpu) (p : StackPair) (v : Word) : (k.setStackPair p v).ime = k.ime := by cases p <;> rfl

@[simp] theorem Cpu.setStackPair_imeDelay (k : Cpu) (p : StackPair) (v : Word) : (k.setStackPair p v).imeDelay = k.imeDelay := by cases p <;> rfl

@[simp] theorem Cpu.setStackPair_halted (k : Cpu) (p : StackPair) (v : Word) : (k.setStackPair p v).halted = k.halted := by cases p <;> rfl

@[simp] theorem Cpu.setStackPair_haltBug (k : Cpu) (p : StackPair) (v : Word) : (k.setStackPair p v).haltBug = k.haltBug := by cases p <;> rfl

@[simp] theorem Cpu.setStackPair_fatal (k : Cpu) (p : StackPair) (v : Word) : (k.setStackPair p v).fatal = k.fatal := by cases p <;> rfl

@[simp] theorem Cpu.setStackPair_illegalOp (k : Cpu) (p : StackPair) (v : Word) : (k.setStackPair p v).illegalOp = k.illegalOp := by cases p <;> rfl

@[simp] theorem Cpu.setReg_sp (k : Cpu) (r : Reg8) (v : Byte) : (k.setReg r v).sp = k.sp := by cases r <;> rfl

@[simp] theorem Cpu.setStackPair_sp (k : Cpu) (p : StackPair) (v : Word) : (k.setStackPair p v).sp = k.sp := by cases p <;> rfl

@[simp] theorem Cpu.setReg_f (k : Cpu) (r : Reg8) (v : Byte) : (k.setReg r v).f = k.f := by cases r <;> rfl

@[simp] theorem Cpu.setPair_f (k : Cpu) (p : Pair) (v : Word) : (k.setPair p v).f = k.f := by cases p <;> rfl

end Sys2Proof.Machine
end

