-- ==== Sys2Proof/Laws/Bus.lean ====
section
/-!
SUPPORT. Laws/Bus.lean: everything a bus write can do, said once: which fields it leaves alone, that it does not look at the
CPU, that the cartridge's constants stay, that the memory blocks stay canonical.
-/

namespace Sys2Proof.Machine

/-! ### What a read looks at -/

@[simp] theorem State.busRead_cpu (s : State) (k : Cpu) (a : Word) :
    State.busRead { s with cpu := k } a = s.busRead a := rfl

@[simp] theorem State.busRead_cycles (s : State) (n : Option Nat) (a : Word) :
    State.busRead { s with cycles := n } a = s.busRead a := rfl

/-! ### OAM DMA -/

/-- The copy changes OAM and nothing else. -/
theorem State.dmaFold_eq (v : Byte) (l : List Nat) (s : State) :
    l.foldl (State.dmaByte v) s = { s with ppu := { s.ppu with oam := (l.foldl (State.dmaByte v) s).ppu.oam } } := by
  induction l generalizing s with
  | nil => rfl
  | cons i l ih =>
    rw [List.foldl_cons, ih]
    rfl

theorem State.oamDma_eq (s : State) (v : Byte) :
    s.oamDma v = { s with ppu := { s.ppu with oam := (s.oamDma v).ppu.oam } } := State.dmaFold_eq v _ s

@[simp] theorem State.cpu_oamDma (s : State) (v : Byte) : (s.oamDma v).cpu = s.cpu := by
  rw [State.oamDma_eq]

@[simp] theorem State.ic_oamDma (s : State) (v : Byte) : (s.oamDma v).ic = s.ic := by
  rw [State.oamDma_eq]

@[simp] theorem State.timer_oamDma (s : State) (v : Byte) : (s.oamDma v).timer = s.timer := by
  rw [State.oamDma_eq]

@[simp] theorem State.bus_oamDma (s : State) (v : Byte) : (s.oamDma v).bus = s.bus := by
  rw [State.oamDma_eq]

@[simp] theorem State.cart_oamDma (s : State) (v : Byte) : (s.oamDma v).cart = s.cart := by
  rw [State.oamDma_eq]

@[simp] theorem State.env_oamDma (s : State) (v : Byte) : (s.oamDma v).env = s.env := by
  rw [State.oamDma_eq]

@[simp] theorem State.cycles_oamDma (s : State) (v : Byte) : (s.oamDma v).cycles = s.cycles := by
  rw [State.oamDma_eq]

theorem State.dmaFold_cpu (v : Byte) (l : List Nat) (s : State) (k : Cpu) :
    l.foldl (State.dmaByte v) { s with cpu := k } = { l.foldl (State.dmaByte v) s with cpu := k } := by
  induction l generalizing s with
  | nil => rfl
  | cons i l ih => exact ih (State.dmaByte v s i)

theorem State.dmaFold_cycles (v : Byte) (l : List Nat) (s : State) (n : Option Nat) :
    l.foldl (State.dmaByte v) { s with cycles := n } = { l.foldl (State.dmaByte v) s with cycles := n } := by
  induction l generalizing s with
  | nil => rfl
  | cons i l ih => exact ih (State.dmaByte v s i)

/-! ### A write does not look at the CPU or the cycle count -/

theorem State.ioWrite_cpu (s : State) (k : Cpu) (r : IoReg) (v : Byte) :
    State.ioWrite { s with cpu := k } r v = { s.ioWrite r v with cpu := k } := by
  cases r with
  | dma => exact State.dmaFold_cpu v _ { s with ppu := { s.ppu with dma := v } } k
  | _ => rfl

theorem State.ioWrite_cycles (s : State) (n : Option Nat) (r : IoReg) (v : Byte) :
    State.ioWrite { s with cycles := n } r v = { s.ioWrite r v with cycles := n } := by
  cases r with
  | dma => exact State.dmaFold_cycles v _ { s with ppu := { s.ppu with dma := v } } n
  | _ => rfl

@[simp] theorem State.busWrite_cpu (s : State) (k : Cpu) (a : Word) (v : Byte) :
    State.busWrite { s with cpu := k } a v = { s.busWrite a v with cpu := k } := by
  unfold State.busWrite
  cases target a with
  | io r => exact State.ioWrite_cpu s k r v
  | _ => rfl

@[simp] theorem State.busWrite_cycles (s : State) (n : Option Nat) (a : Word) (v : Byte) :
    State.busWrite { s with cycles := n } a v = { s.busWrite a v with cycles := n } := by
  unfold State.busWrite
  cases target a with
  | io r => exact State.ioWrite_cycles s n r v
  | _ => rfl

/-! ### What a write leaves alone -/

theorem State.ioWrite_frame (s : State) (r : IoReg) (v : Byte) :
    (s.ioWrite r v).cpu = s.cpu ∧ (s.ioWrite r v).env = s.env ∧ (s.ioWrite r v).cart = s.cart ∧
      (s.ioWrite r v).cycles = s.cycles := by
  cases r with
  | dma =>
    simp only [State.ioWrite]
    rw [State.oamDma_eq]
    exact ⟨rfl, rfl, rfl, rfl⟩
  | _ => exact ⟨rfl, rfl, rfl, rfl⟩

@[simp] theorem State.cpu_busWrite (s : State) (a : Word) (v : Byte) : (s.busWrite a v).cpu = s.cpu := by
  unfold State.busWrite
  cases target a with
  | io r => exact (State.ioWrite_frame s r v).1
  | _ => rfl

@[simp] theorem State.env_busWrite (s : State) (a : Word) (v : Byte) : (s.busWrite a v).env = s.env := by
  unfold State.busWrite
  cases target a with
  | io r => exact (State.ioWrite_frame s r v).2.1
  | _ => rfl

@[simp] theorem State.cycles_busWrite (s : State) (a : Word) (v : Byte) : (s.busWrite a v).cycles = s.cycles := by
  unfold State.busWrite
  cases target a with
  | io r => exact (State.ioWrite_frame s r v).2.2.2
  | _ => rfl

/-! ### The cartridge -/

/-- The parts of a cartridge no step changes (21_cartridge.md R110). -/
structure Cart.SameCartridge (k j : Cart) : Prop where
  image : j.image = k.image
  imageSize : j.imageSize = k.imageSize
  variant : j.variant = k.variant
  hasRtc : j.hasRtc = k.hasRtc
  romBanks : j.romBanks = k.romBanks
  ramSize : j.ramSize = k.ramSize

theorem Cart.SameCartridge.refl (k : Cart) : k.SameCartridge k := ⟨rfl, rfl, rfl, rfl, rfl, rfl⟩

theorem Cart.SameCartridge.trans {k j l : Cart} (h : k.SameCartridge j) (h' : j.SameCartridge l) : k.SameCartridge l :=
  ⟨h'.1.trans h.1, h'.2.trans h.2, h'.3.trans h.3, h'.4.trans h.4, h'.5.trans h.5, h'.6.trans h.6⟩

theorem Cart.writeRom_same (now : Nat) (k : Cart) (a : Nat) (v : Byte) : k.SameCartridge (k.writeRom now a v) := by
  unfold Cart.writeRom Cart.writeType1 Cart.writeType3 Cart.writeLatch Cart.latchRtc
  split
  · exact .refl k
  · split_ifs <;> exact ⟨rfl, rfl, rfl, rfl, rfl, rfl⟩
  · simp only []
    split_ifs <;> exact ⟨rfl, rfl, rfl, rfl, rfl, rfl⟩

theorem Cart.writeExt_same (now : Nat) (k : Cart) (off : Nat) (v : Byte) : k.SameCartridge (k.writeExt now off v) := by
  unfold Cart.writeExt Cart.writeClock
  split <;> exact ⟨rfl, rfl, rfl, rfl, rfl, rfl⟩

theorem State.busWrite_same (s : State) (a : Word) (v : Byte) : s.cart.SameCartridge (s.busWrite a v).cart := by
  unfold State.busWrite
  cases target a with
  | rom i => exact Cart.writeRom_same _ _ _ _
  | ext i => exact Cart.writeExt_same _ _ _ _
  | io r =>
    show s.cart.SameCartridge (s.ioWrite r v).cart
    rw [(State.ioWrite_frame s r v).2.2.1]
    exact .refl _
  | _ => exact .refl _

/-- A byte of cartridge RAM behind the external window lies inside it. -/
theorem Cart.extCell_lt {k : Cart} {off i : Nat} (h : k.extCell off = .cram i) : i < k.ramSize := by
  unfold Cart.extCell at h
  have hm : ∀ n, ¬k.ramSize = 0 → n % k.ramSize < k.ramSize := fun n h0 => Nat.mod_lt _ (Nat.pos_of_ne_zero h0)
  split at h
  · split_ifs at h with h0
    cases h
    exact hm _ h0
  · split_ifs at h with h0 <;> cases h <;> exact hm _ fun hz => h0 (.inl hz)
  · split_ifs at h with h1 h2 h3
    cases h
    exact hm _ h3

/-! ### The memory blocks stay canonical -/

theorem target_rom {a : Word} (hi : a.toNat < 0x8000) :
    target a = .rom a.toNat := by
  simp only [target]
  rw [if_pos hi]

theorem target_vram {a : Word} (lo : 0x8000 ≤ a.toNat) (hi : a.toNat < 0xA000) :
    target a = .vram (a.toNat - 0x8000) := by
  simp only [target]
  split_ifs <;> first | omega | rfl

theorem target_ext {a : Word} (lo : 0xA000 ≤ a.toNat) (hi : a.toNat < 0xC000) :
    target a = .ext (a.toNat - 0xA000) := by
  simp only [target]
  split_ifs <;> first | omega | rfl

theorem target_wram {a : Word} (lo : 0xC000 ≤ a.toNat) (hi : a.toNat < 0xE000) :
    target a = .wram (a.toNat - 0xC000) := by
  simp only [target]
  split_ifs <;> first | omega | rfl

theorem target_echo {a : Word} (lo : 0xE000 ≤ a.toNat) (hi : a.toNat < 0xFE00) :
    target a = .wram (a.toNat - 0xE000) := by
  simp only [target]
  split_ifs <;> first | omega | rfl

theorem target_oam {a : Word} (lo : 0xFE00 ≤ a.toNat) (hi : a.toNat < 0xFEA0) :
    target a = .oam (a.toNat - 0xFE00) := by
  simp only [target]
  split_ifs <;> first | omega | rfl

theorem target_unusable {a : Word} (lo : 0xFEA0 ≤ a.toNat) (hi : a.toNat < 0xFF00) :
    target a = .unmapped := by
  simp only [target]
  split_ifs <;> first | omega | rfl

theorem target_io {a : Word} {r : IoReg} (lo : 0xFF00 ≤ a.toNat) (hi : a.toNat < 0xFF80)
    (hr : ioAt (a.toNat - 0xFF00) = some r) : target a = .io r := by
  simp only [target, hr]
  split_ifs <;> first | omega | rfl

theorem target_unmapped {a : Word} (lo : 0xFF00 ≤ a.toNat) (hi : a.toNat < 0xFF80)
    (hr : ioAt (a.toNat - 0xFF00) = none) : target a = .unmapped := by
  simp only [target, hr]
  split_ifs <;> first | omega | rfl

theorem target_hram {a : Word} (lo : 0xFF80 ≤ a.toNat) (hi : a.toNat < 0xFFFF) :
    target a = .hram (a.toNat - 0xFF80) := by
  simp only [target]
  split_ifs <;> first | omega | rfl

/-- The row of the address decode an address falls in (20_memory.md R66). -/
theorem target_rows (a : Word) :
    a.toNat < 0x8000 ∨ (0x8000 ≤ a.toNat ∧ a.toNat < 0xA000) ∨ (0xA000 ≤ a.toNat ∧ a.toNat < 0xC000) ∨
    (0xC000 ≤ a.toNat ∧ a.toNat < 0xE000) ∨ (0xE000 ≤ a.toNat ∧ a.toNat < 0xFE00) ∨
    (0xFE00 ≤ a.toNat ∧ a.toNat < 0xFEA0) ∨ (0xFEA0 ≤ a.toNat ∧ a.toNat < 0xFF00) ∨
    (0xFF00 ≤ a.toNat ∧ a.toNat < 0xFF80) ∨ (0xFF80 ≤ a.toNat ∧ a.toNat < 0xFFFF) ∨ a = 0xFFFF := by
  have ha : a.toNat < 0x10000 := a.isLt
  by_cases h : a = 0xFFFF
  · simp [h]
  · have : a.toNat ≠ 0xFFFF := fun hn => h (BitVec.eq_of_toNat_eq hn)
    omega

theorem target_ie : target 0xFFFF = .io .ie := by decide

/-- What an index of a target says about it and about the address. -/
theorem target_index (a : Word) :
    match target a with
    | .rom i => i = a.toNat ∧ i < 0x8000
    | .vram i => a.toNat = 0x8000 + i ∧ i < 0x2000
    | .ext i => a.toNat = 0xA000 + i ∧ i < 0x2000
    | .wram i => (a.toNat = 0xC000 + i ∧ i < 0x2000) ∨ (a.toNat = 0xE000 + i ∧ i < 0x1E00)
    | .oam i => a.toNat = 0xFE00 + i ∧ i < 160
    | .hram i => a.toNat = 0xFF80 + i ∧ i < 127
    | .io _ => 0xFF00 ≤ a.toNat
    | .unmapped => 0xFEA0 ≤ a.toNat := by
  obtain hi | ⟨vlo, vhi⟩ | ⟨xlo, xhi⟩ | ⟨wlo, whi⟩ | ⟨elo, ehi⟩ | ⟨olo, ohi⟩ | ⟨ulo, uhi⟩ | ⟨rlo, rhi⟩ | ⟨hlo, hhi⟩ | h :=
    target_rows a
  · rw [target_rom hi]; exact ⟨rfl, hi⟩
  · rw [target_vram vlo vhi]; exact ⟨by omega, by omega⟩
  · rw [target_ext xlo xhi]; exact ⟨by omega, by omega⟩
  · rw [target_wram wlo whi]; exact .inl ⟨by omega, by omega⟩
  · rw [target_echo elo ehi]; exact .inr ⟨by omega, by omega⟩
  · rw [target_oam olo ohi]; exact ⟨by omega, by omega⟩
  · rw [target_unusable ulo uhi]; exact ulo
  · cases hr : ioAt (a.toNat - 0xFF00) with
    | none => rw [target_unmapped rlo rhi hr]; show 0xFEA0 ≤ a.toNat; omega
    | some r => rw [target_io rlo rhi hr]; exact rlo
  · rw [target_hram hlo hhi]; exact ⟨by omega, by omega⟩
  · rw [h, target_ie]; decide

/-- The address decode gives DIV to 0xFF04 only (20_memory.md R66). -/
theorem target_div {a : Word} (h : target a = .io .div) : a = 0xFF04 := by
  have only : ∀ k < 0x80, ioAt k = some .div → k = 4 := by decide
  have lo := target_index a
  rw [h] at lo
  replace lo : 0xFF00 ≤ a.toNat := lo
  obtain hi | hi | hi : a.toNat < 0xFF80 ∨ (0xFF80 ≤ a.toNat ∧ a.toNat < 0xFFFF) ∨ a.toNat = 0xFFFF := by
    have := a.isLt; omega
  · cases hr : ioAt (a.toNat - 0xFF00) with
    | none => rw [target_unmapped lo hi hr] at h; cases h
    | some r =>
      rw [target_io lo hi hr] at h
      have := only _ (by omega) (hr.trans (congrArg some (Target.io.inj h)))
      exact BitVec.eq_of_toNat_eq (show a.toNat = 0xFF04 by omega)
  · rw [target_hram hi.1 hi.2] at h; cases h
  · have last : a = 0xFFFF := BitVec.eq_of_toNat_eq (hi.trans (by decide))
    rw [last, target_ie] at h
    exact absurd (Target.io.inj h) (by decide)

/-- A bus write clears the system counter at 0xFF04 and nowhere else (60_exceptions.md R435). -/
theorem State.sysctr_busWrite (s : State) (a : Word) (v : Byte) :
    (s.busWrite a v).timer.sysctr = if a = 0xFF04 then 0 else s.timer.sysctr := by
  unfold State.busWrite
  by_cases h : a = 0xFF04
  · rw [h, if_pos rfl, show target 0xFF04 = .io .div by decide]
    simp only [State.writeTarget, State.ioWrite, Timer.writeDiv]
  · rw [if_neg h]
    have other := mt (target_div (a := a)) h
    generalize target a = r at other
    cases r with
    | io r => cases r <;> first | exact absurd rfl other | simp only [State.writeTarget, State.ioWrite, State.timer_oamDma]
    | _ => rfl
theorem target_vram_lt {a : Word} {i : Nat} (h : target a = .vram i) : i < 0x2000 := by
  have := target_index a; rw [h] at this; exact this.2

theorem target_wram_lt {a : Word} {i : Nat} (h : target a = .wram i) : i < 0x2000 := by
  have := target_index a; rw [h] at this; simp only at this; omega

theorem target_oam_lt {a : Word} {i : Nat} (h : target a = .oam i) : i < 160 := by
  have := target_index a; rw [h] at this; exact this.2

theorem target_hram_lt {a : Word} {i : Nat} (h : target a = .hram i) : i < 127 := by
  have := target_index a; rw [h] at this; exact this.2

theorem Cells.okFor_write {w : Nat} {m : Cells w} {n k : Nat} (h : m.okFor n) (hk : k < n) (v : BitVec w) :
    Cells.okFor (m.write k v) n := ⟨Cells.wf_write h.1 k v, Cells.below_write h.2 hk v⟩

theorem State.dmaFold_oam_ok (v : Byte) (l : List Nat) (hl : ∀ i ∈ l, i < 160) (s : State)
    (h : Cells.okFor s.ppu.oam 160) : Cells.okFor (l.foldl (State.dmaByte v) s).ppu.oam 160 := by
  induction l generalizing s with
  | nil => exact h
  | cons i l ih =>
    exact ih (fun j hj => hl j (by simp [hj])) _ (Cells.okFor_write h (hl i (by simp)) _)

theorem State.memoryOk_oamDma {s : State} (h : s.memoryOk) (v : Byte) : (s.oamDma v).memoryOk := by
  obtain ⟨h1, h2, h3⟩ := h
  have := State.dmaFold_oam_ok v (List.range 0xA0) (fun i hi => by simpa using hi) s h2
  rw [State.oamDma_eq]
  exact ⟨h1, this, h3⟩

theorem State.memoryOk_ioWrite {s : State} (h : s.memoryOk) (r : IoReg) (v : Byte) : (s.ioWrite r v).memoryOk := by
  cases r with
  | dma => exact State.memoryOk_oamDma (s := { s with ppu := { s.ppu with dma := v } }) h v
  | bootOff =>
    show State.memoryOk { s with bus := s.bus.writeBootOff v }
    unfold Bus.writeBootOff
    split <;> exact h
  | _ => exact h

/-- Every bus write keeps the memory blocks canonical and inside their sizes. -/
theorem State.memoryOk_busWrite {s : State} (h : s.memoryOk) (a : Word) (v : Byte) : (s.busWrite a v).memoryOk := by
  unfold State.busWrite
  have hcart := State.busWrite_same s a v
  obtain ⟨h1, h2, h3, h4, h5, h6, h7, h8, h9⟩ := h
  cases ht : target a with
  | rom i =>
    obtain ⟨hi, his, -, -, -, hr⟩ := Cart.writeRom_same s.env.rtcNow s.cart i v
    have hc : (s.cart.writeRom s.env.rtcNow i v).cram = s.cart.cram := by
      unfold Cart.writeRom Cart.writeType1 Cart.writeType3 Cart.writeLatch Cart.latchRtc
      split
      · rfl
      · split_ifs <;> rfl
      · simp only []
        split_ifs <;> rfl
    refine ⟨h1, h2, h3, h4, ?_, ?_, h7, h8, h9⟩
    · show Cells.okFor (s.cart.writeRom s.env.rtcNow i v).cram (s.cart.writeRom s.env.rtcNow i v).ramSize
      rw [hc, hr]
      exact h5
    · show Cells.okFor (s.cart.writeRom s.env.rtcNow i v).image (s.cart.writeRom s.env.rtcNow i v).imageSize
      rw [hi, his]
      exact h6
  | vram i => exact ⟨Cells.okFor_write h1 (target_vram_lt ht) v, h2, h3, h4, h5, h6, h7, h8, h9⟩
  | ext i =>
    show State.memoryOk { s with cart := s.cart.writeExt s.env.rtcNow i v }
    unfold Cart.writeExt
    cases hc : s.cart.extCell i with
    | absent => exact ⟨h1, h2, h3, h4, h5, h6, h7, h8, h9⟩
    | cram j => exact ⟨h1, h2, h3, h4, Cells.okFor_write h5 (Cart.extCell_lt hc) v, h6, h7, h8, h9⟩
    | clock j => exact ⟨h1, h2, h3, h4, h5, h6, h7, h8, h9⟩
  | wram i => exact ⟨h1, h2, Cells.okFor_write h3 (target_wram_lt ht) v, h4, h5, h6, h7, h8, h9⟩
  | oam i => exact ⟨h1, Cells.okFor_write h2 (target_oam_lt ht) v, h3, h4, h5, h6, h7, h8, h9⟩
  | hram i => exact ⟨h1, h2, h3, Cells.okFor_write h4 (target_hram_lt ht) v, h5, h6, h7, h8, h9⟩
  | io r => exact State.memoryOk_ioWrite ⟨h1, h2, h3, h4, h5, h6, h7, h8, h9⟩ r v
  | unmapped => exact ⟨h1, h2, h3, h4, h5, h6, h7, h8, h9⟩

/-- Reset memory lists nothing, so it is canonical. -/
theorem State.memoryOk_reset : State.reset.memoryOk := by decide

/-! ### Accesses row by row -/

/-- Above the boot overlay a read is a read of the address decode's target. -/
theorem State.busRead_high (s : State) {a : Word} (h : 0x100 ≤ a.toNat) : s.busRead a = s.readTarget (target a) := by
  unfold State.busRead State.bootCovers
  rw [if_neg]
  simp
  omega

theorem State.busRead_ext (s : State) {a : Word} (h : 0xA000 ≤ a.toNat) (h' : a.toNat < 0xC000) :
    s.busRead a = s.cart.readExt (a.toNat - 0xA000) := by
  rw [State.busRead_high s (by omega), target_ext h h']
  rfl

theorem State.busWrite_rom (s : State) {a : Word} (v : Byte) (h : a.toNat < 0x8000) :
    s.busWrite a v = { s with cart := s.cart.writeRom s.env.rtcNow a.toNat v } := by
  unfold State.busWrite
  rw [target_rom h]
  rfl

theorem State.busWrite_ext (s : State) {a : Word} (v : Byte) (h : 0xA000 ≤ a.toNat) (h' : a.toNat < 0xC000) :
    s.busWrite a v = { s with cart := s.cart.writeExt s.env.rtcNow (a.toNat - 0xA000) v } := by
  unfold State.busWrite
  rw [target_ext h h']
  rfl

/-- The unmapped offsets of the I/O page (20_memory.md R80). -/
theorem ioAt_none {k : Nat} (h : k = 3 ∨ (8 ≤ k ∧ k ≤ 14) ∨ (16 ≤ k ∧ k ≤ 63) ∨ (76 ≤ k ∧ k ≤ 79) ∨ 81 ≤ k) :
    ioAt k = none := by
  unfold ioAt
  split <;> first | rfl | (exfalso; omega)

/-! ### Writes one after another -/

@[simp] theorem State.busWrites_nil (s : State) : s.busWrites [] = s := rfl

@[simp] theorem State.busWrites_cons (s : State) (w : Word × Byte) (l : List (Word × Byte)) :
    s.busWrites (w :: l) = (s.busWrite w.1 w.2).busWrites l := rfl

theorem State.busWrites_cpu (s : State) (k : Cpu) (l : List (Word × Byte)) :
    State.busWrites { s with cpu := k } l = { s.busWrites l with cpu := k } := by
  induction l generalizing s with
  | nil => rfl
  | cons w l ih => simp only [State.busWrites_cons, State.busWrite_cpu, ih]

/-- `Push16`: the two writes of `pushWrites`, then SP two lower (00_scope.md R15). -/
theorem State.push16_eq (s : State) (v : Word) :
    s.push16 v = { s.busWrites (pushWrites s.cpu.sp v) with cpu := { s.cpu with sp := s.cpu.sp - 2 } } := by
  have h : s.cpu.sp - 2 + 1 = s.cpu.sp - 1 := by bv_omega
  simp only [State.push16, State.setSp, pushWrites, State.busWrites_cons, State.busWrites_nil, State.busWrite_cpu, h]

end Sys2Proof.Machine
end

