-- ==== Sys2Proof/Laws/Decode.lean ====
section
/-!
SUPPORT. Laws/Decode.lean: what the decoder answers for each shape of table entry, and what the encoder's shapes split into.
-/

namespace Sys2Proof

/-- The bits of two bytes joined, high byte first. -/
theorem Word.getLsbD_ofBytes (h l : Byte) (i : Nat) :
    (Word.ofBytes h l).getLsbD i = if i < 8 then l.getLsbD i else h.getLsbD (i - 8) := by
  show (h ++ l : BitVec (8 + 8)).getLsbD i = _
  rw [BitVec.getLsbD_append]

@[simp] theorem Word.ofBytes_hi_lo (w : Word) : Word.ofBytes w.hi w.lo = w := by
  apply BitVec.eq_of_getLsbD_eq
  intro i hi
  rw [Word.getLsbD_ofBytes, Word.hi, Word.lo, BitVec.getLsbD_extractLsb', BitVec.getLsbD_extractLsb']
  split
  · next h => simp [h]
  · next h =>
    have h1 : i - 8 < 8 := by omega
    have h2 : 8 + (i - 8) = i := by omega
    simp [h1, h2]

@[simp] theorem Word.hi_ofBytes (h l : Byte) : (Word.ofBytes h l).hi = h := by
  apply BitVec.eq_of_getLsbD_eq
  intro i hi
  rw [Word.hi, BitVec.getLsbD_extractLsb', Word.getLsbD_ofBytes]
  simp [hi]

@[simp] theorem Word.lo_ofBytes (h l : Byte) : (Word.ofBytes h l).lo = l := by
  apply BitVec.eq_of_getLsbD_eq
  intro i hi
  rw [Word.lo, BitVec.getLsbD_extractLsb', Word.getLsbD_ofBytes]
  simp [hi]

theorem decode_op {op : Byte} {i : Instr} (h : opEntry op = .op i) (rest : List Byte) :
    decode (op :: rest) = .ok (i, rest) := by
  simp [decode, h, Entry.length, Entry.instr]

theorem decode_imm8 {op : Byte} {f : Byte → Instr} (h : opEntry op = .imm8 f) (b : Byte) (rest : List Byte) :
    decode (op :: b :: rest) = .ok (f b, rest) := by
  simp [decode, h, Entry.length, Entry.instr]

theorem decode_imm16 {op : Byte} {f : Word → Instr} (h : opEntry op = .imm16 f) (w : Word) (rest : List Byte) :
    decode (op :: w.lo :: w.hi :: rest) = .ok (f w, rest) := by
  simp [decode, h, Entry.length, Entry.instr]

theorem decode_cb (op2 : Byte) (rest : List Byte) :
    decode (0xCB :: op2 :: rest) = .ok (cbInstr op2, rest) := by
  have h : opEntry 0xCB = .cb := rfl
  simp only [decode, h, Entry.length, Entry.instr, List.length_cons]
  rw [if_neg (by omega)]
  rfl

end Sys2Proof
end

