-- ==== Sys2Proof/Laws/Ppu.lean ====
section
/-!
SUPPORT. Laws/Ppu.lean: the PPU's loop said once: a turn of it, when it stops, that enough fuel is any fuel, and that
leaving a mode does not look at the mode clock.
-/

namespace Sys2Proof.Machine

theorem mode_cases (m : BitVec 2) : m = 0 ∨ m = 1 ∨ m = 2 ∨ m = 3 := by revert m; decide

theorem modeLength_ge (m : BitVec 2) : 80 ≤ modeLength m := by
  rcases mode_cases m with rfl | rfl | rfl | rfl <;> decide

/-! ### The parts of a turn -/

/-- The machine with another mode clock. -/
def State.withClock (s : State) (n : Nat) : State := { s with ppu := { s.ppu with modeClock := n } }

@[simp] theorem State.mode_withClock (s : State) (n : Nat) : (s.withClock n).ppu.mode = s.ppu.mode := rfl
@[simp] theorem State.ly_withClock (s : State) (n : Nat) : (s.withClock n).ppu.ly = s.ppu.ly := rfl
@[simp] theorem State.modeClock_withClock (s : State) (n : Nat) : (s.withClock n).ppu.modeClock = n := rfl
@[simp] theorem State.withClock_withClock (s : State) (n m : Nat) : (s.withClock n).withClock m = s.withClock m := rfl
@[simp] theorem State.withClock_self (s : State) : s.withClock s.ppu.modeClock = s := rfl

theorem State.spendClock_eq (s : State) (n : Nat) : s.spendClock n = s.withClock (s.ppu.modeClock - n) := rfl

@[simp] theorem State.setLy_ly (s : State) (v : Byte) : (s.setLy v).ppu.ly = v := by
  unfold State.setLy
  split <;> rfl

@[simp] theorem State.setLy_fb (s : State) (v : Byte) : (s.setLy v).ppu.fb = s.ppu.fb := by
  unfold State.setLy
  split <;> rfl

@[simp] theorem State.setLy_frames (s : State) (v : Byte) : (s.setLy v).ppu.frames = s.ppu.frames := by
  unfold State.setLy
  split <;> rfl

@[simp] theorem State.setLy_withClock (s : State) (v : Byte) (n : Nat) :
    (s.withClock n).setLy v = (s.setLy v).withClock n := by
  unfold State.setLy State.withClock
  dsimp only
  split <;> rfl

@[simp] theorem State.setLy_modeClock (s : State) (v : Byte) : (s.setLy v).ppu.modeClock = s.ppu.modeClock := by
  unfold State.setLy
  split <;> rfl

@[simp] theorem State.enterMode_withClock (s : State) (m : BitVec 2) (n : Nat) :
    (s.withClock n).enterMode m = (s.enterMode m).withClock n := rfl

@[simp] theorem State.enterMode_mode (s : State) (m : BitVec 2) : (s.enterMode m).ppu.mode = m := by
  have h : ∀ (b : Byte) (k : BitVec 2), ((b &&& 0xFC) ||| k.setWidth 8).setWidth 2 = k := by decide
  exact h s.ppu.stat m

/-- What leaving a mode does, mode by mode (61_ppu.md R470 to R475). -/
theorem State.leaveMode_hblank {s : State} (h : s.ppu.mode = 0) :
    s.leaveMode = (s.setLy (s.ppu.ly + 1)).enterMode (if s.ppu.ly + 1 = 144 then 1 else 2) := by
  unfold State.leaveMode
  rw [h]
  show (s.setLy (s.ppu.ly + 1)).enterMode _ = _
  rw [State.setLy_ly]

theorem State.leaveMode_vblank {s : State} (h : s.ppu.mode = 1) :
    s.leaveMode = if s.ppu.ly = 153 then (s.setLy 0).frameComplete.enterMode 2 else s.setLy (s.ppu.ly + 1) := by
  unfold State.leaveMode
  rw [h]
  rfl

theorem State.leaveMode_scan {s : State} (h : s.ppu.mode = 2) : s.leaveMode = s.enterMode 3 := by
  unfold State.leaveMode
  rw [h]
  rfl

theorem State.leaveMode_transfer {s : State} (h : s.ppu.mode = 3) :
    s.leaveMode = State.enterMode { s with ppu := { s.ppu with fb := s.ppu.renderScanline s.ppu.ly.toNat } } 0 := by
  unfold State.leaveMode
  rw [h]
  rfl

/-- Leaving a mode does not look at the mode clock and does not change it. -/
theorem State.leaveMode_withClock (s : State) (n : Nat) : (s.withClock n).leaveMode = s.leaveMode.withClock n := by
  rcases mode_cases s.ppu.mode with h | h | h | h
  · rw [State.leaveMode_hblank h, State.leaveMode_hblank (s := s.withClock n) h, State.setLy_withClock,
      State.enterMode_withClock]
    rfl
  · rw [State.leaveMode_vblank h, State.leaveMode_vblank (s := s.withClock n) h]
    simp only [State.ly_withClock, State.setLy_withClock]
    split <;> rfl
  · rw [State.leaveMode_scan h, State.leaveMode_scan (s := s.withClock n) h]
    simp
  · rw [State.leaveMode_transfer h, State.leaveMode_transfer (s := s.withClock n) h]
    rfl

@[simp] theorem State.leaveMode_modeClock (s : State) : s.leaveMode.ppu.modeClock = s.ppu.modeClock := by
  have h := State.leaveMode_withClock s s.ppu.modeClock
  rw [State.withClock_self] at h
  rw [h]
  rfl

/-! ### The loop -/

/-- One turn of the loop: the length of the mode is spent and the mode left. -/
def State.ppuTurn (s : State) : State := s.leaveMode.withClock (s.ppu.modeClock - modeLength s.ppu.mode)

theorem State.ppuTurn_eq (s : State) : (s.spendClock (modeLength s.ppu.mode)).leaveMode = s.ppuTurn := by
  rw [State.spendClock_eq, State.leaveMode_withClock]
  rfl

theorem State.ppuLoop_succ (n : Nat) (s : State) :
    State.ppuLoop (n + 1) s = if modeLength s.ppu.mode ≤ s.ppu.modeClock then State.ppuLoop n s.ppuTurn else s := by
  rw [← State.ppuTurn_eq]
  rfl

@[simp] theorem State.ppuTurn_modeClock (s : State) :
    s.ppuTurn.ppu.modeClock = s.ppu.modeClock - modeLength s.ppu.mode := rfl

/-- Any fuel from mode_clock / 80 on gives the same. -/
theorem State.ppuLoop_fuel (n m : Nat) (s : State) (hn : s.ppu.modeClock / 80 ≤ n) (hm : s.ppu.modeClock / 80 ≤ m) :
    State.ppuLoop n s = State.ppuLoop m s := by
  induction n generalizing s m with
  | zero =>
    have := modeLength_ge s.ppu.mode
    cases m with
    | zero => rfl
    | succ m =>
      rw [State.ppuLoop_succ, if_neg (by omega)]
      rfl
  | succ n ih =>
    have := modeLength_ge s.ppu.mode
    cases m with
    | zero =>
      rw [State.ppuLoop_succ, if_neg (by omega)]
      rfl
    | succ m =>
      rw [State.ppuLoop_succ, State.ppuLoop_succ]
      split
      · exact ih m _ (by rw [State.ppuTurn_modeClock]; omega) (by rw [State.ppuTurn_modeClock]; omega)
      · rfl

/-- `PpuStep` with the cycles already counted. -/
theorem State.ppuStep_eq (s : State) (c : Nat) : s.ppuStep c = (s.withClock (s.ppu.modeClock + c)).ppuStep 0 := rfl

/-- The loop goes on for one turn when the mode's cycles are up … -/
theorem State.ppuStep_turn {s : State} (h : modeLength s.ppu.mode ≤ s.ppu.modeClock) :
    s.ppuStep 0 = s.ppuTurn.ppuStep 0 := by
  have := modeLength_ge s.ppu.mode
  show State.ppuLoop (s.ppu.modeClock / 80) s = State.ppuLoop (s.ppuTurn.ppu.modeClock / 80) s.ppuTurn
  rw [State.ppuLoop_fuel _ (s.ppu.modeClock / 80 - 1 + 1) s le_rfl (by omega), State.ppuLoop_succ, if_pos h]
  exact State.ppuLoop_fuel _ _ _ (by rw [State.ppuTurn_modeClock]; omega) le_rfl

/-- … and stops when they are not. -/
theorem State.ppuStep_stop {s : State} (h : s.ppu.modeClock < modeLength s.ppu.mode) : s.ppuStep 0 = s := by
  show State.ppuLoop (s.ppu.modeClock / 80) s = s
  cases s.ppu.modeClock / 80 with
  | zero => rfl
  | succ n => rw [State.ppuLoop_succ, if_neg (by omega)]

/-- What a turn and a stop both keep, the PPU step keeps. -/
theorem State.ppuStep_induct {P : State → Prop} (hturn : ∀ s, modeLength s.ppu.mode ≤ s.ppu.modeClock → P s → P s.ppuTurn)
    {s : State} (h : P s) : P (s.ppuStep 0) := by
  have key : ∀ n (t : State), P t → P (State.ppuLoop n t) := by
    intro n
    induction n with
    | zero => exact fun t ht => ht
    | succ n ih =>
      intro t ht
      rw [State.ppuLoop_succ]
      split
      · exact ih _ (hturn t ‹_› ht)
      · exact ht
  exact key _ s h

end Sys2Proof.Machine
end

