-- ==== Sys2Proof/Laws/Devices.lean ====
section
/-!
SUPPORT. Laws/Devices.lean: the timer's operations as one expression each, and what a tick of the timer, a step of the PPU
and the two together leave alone.
-/

namespace Sys2Proof.Machine

/-! ### The timer -/

/-- The edge test of a tick with TimaInc, in one expression. -/
theorem Timer.edge_eq (t : Timer) (old : Word) :
    t.edge old =
      let up := t.enabled && old.getLsbD (selBit t.tac) && !t.sysctr.getLsbD (selBit t.tac)
      { t with
        tima := if up = true then t.tima + 1 else t.tima
        reloadDelay := if up = true ∧ t.tima = 0xFF then 4 else t.reloadDelay } := by
  unfold Timer.edge Timer.timaInc
  generalize (t.enabled && old.getLsbD (selBit t.tac) && !t.sysctr.getLsbD (selBit t.tac)) = up
  obtain ⟨sysctr, tima, tma, tac, delay⟩ := t
  by_cases h : tima = 0xFF
  · subst h
    cases up <;> simp
  · cases up
    · simp
    · simp only [h, if_true, and_false, if_false]

/-- The pending reload of a tick, in one expression. -/
theorem Timer.reload_eq (t : Timer) (c : Nat) :
    t.reload c =
      let due := t.reloadDelay ≠ 0 ∧ t.reloadDelay ≤ c
      ({ t with tima := if due then t.tma else t.tima, reloadDelay := t.reloadDelay - c }, decide due) := by
  obtain ⟨sysctr, tima, tma, tac, delay⟩ := t
  unfold Timer.reload
  by_cases h0 : delay = 0
  · simp [h0]
  · by_cases h1 : delay ≤ c
    · simp [h0, h1]
    · have h2 : ¬delay - c = 0 := by omega
      simp [h0, h1, h2]

/-- A tick moves the counter by its cycles. -/
theorem State.sysctr_timerTick (s : State) (c : Nat) :
    (s.timerTick c).timer.sysctr = s.timer.sysctr + BitVec.ofNat 16 c := by
  unfold State.timerTick
  dsimp only
  rw [Timer.edge_eq, Timer.reload_eq]

/-- A tick touches the timer and IF only. -/
theorem State.timerTick_frame (s : State) (c : Nat) :
    (s.timerTick c).cpu = s.cpu ∧ (s.timerTick c).ppu = s.ppu ∧ (s.timerTick c).bus = s.bus ∧
      (s.timerTick c).cart = s.cart ∧ (s.timerTick c).env = s.env ∧ (s.timerTick c).cycles = s.cycles ∧
      (s.timerTick c).ic.ie = s.ic.ie := by
  unfold State.timerTick
  dsimp only
  split <;> exact ⟨rfl, rfl, rfl, rfl, rfl, rfl, rfl⟩

/-! ### The PPU -/

theorem State.setLy_frame (s : State) (v : Byte) :
    (s.setLy v).cpu = s.cpu ∧ (s.setLy v).timer = s.timer ∧ (s.setLy v).bus = s.bus ∧ (s.setLy v).cart = s.cart ∧
      (s.setLy v).env = s.env ∧ (s.setLy v).cycles = s.cycles := by
  unfold State.setLy
  split <;> exact ⟨rfl, rfl, rfl, rfl, rfl, rfl⟩

theorem State.ppuTurn_frame (s : State) :
    s.ppuTurn.cpu = s.cpu ∧ s.ppuTurn.timer = s.timer ∧ s.ppuTurn.bus = s.bus ∧ s.ppuTurn.cart = s.cart ∧
      s.ppuTurn.env = s.env ∧ s.ppuTurn.cycles = s.cycles := by
  unfold State.ppuTurn
  rcases mode_cases s.ppu.mode with h | h | h | h
  · rw [State.leaveMode_hblank h]
    exact State.setLy_frame s _
  · rw [State.leaveMode_vblank h]
    split
    · exact State.setLy_frame s _
    · exact State.setLy_frame s _
  · rw [State.leaveMode_scan h]
    exact ⟨rfl, rfl, rfl, rfl, rfl, rfl⟩
  · rw [State.leaveMode_transfer h]
    exact ⟨rfl, rfl, rfl, rfl, rfl, rfl⟩

/-- A PPU step touches the PPU and IF only. -/
theorem State.ppuStep_frame (s : State) (c : Nat) :
    (s.ppuStep c).cpu = s.cpu ∧ (s.ppuStep c).timer = s.timer ∧ (s.ppuStep c).bus = s.bus ∧
      (s.ppuStep c).cart = s.cart ∧ (s.ppuStep c).env = s.env ∧ (s.ppuStep c).cycles = s.cycles := by
  rw [State.ppuStep_eq]
  refine State.ppuStep_induct (P := fun t => t.cpu = s.cpu ∧ t.timer = s.timer ∧ t.bus = s.bus ∧ t.cart = s.cart ∧
    t.env = s.env ∧ t.cycles = s.cycles) ?_ ⟨rfl, rfl, rfl, rfl, rfl, rfl⟩
  intro t _ h
  obtain ⟨h1, h2, h3, h4, h5, h6⟩ := State.ppuTurn_frame t
  exact ⟨h1.trans h.1, h2.trans h.2.1, h3.trans h.2.2.1, h4.trans h.2.2.2.1, h5.trans h.2.2.2.2.1, h6.trans h.2.2.2.2.2⟩

/-! ### Both -/

/-- The devices' tick touches the timer, the PPU and IF only. -/
theorem State.tickDevices_frame (s : State) :
    s.tickDevices.cpu = s.cpu ∧ s.tickDevices.bus = s.bus ∧ s.tickDevices.cart = s.cart ∧ s.tickDevices.env = s.env ∧
      s.tickDevices.cycles = s.cycles := by
  unfold State.tickDevices
  split
  · exact ⟨rfl, rfl, rfl, rfl, rfl⟩
  · next c _ =>
    obtain ⟨h1, -, h3, h4, h5, h6⟩ := State.ppuStep_frame (s.timerTick c) c
    obtain ⟨g1, -, g3, g4, g5, g6, -⟩ := State.timerTick_frame s c
    exact ⟨h1.trans g1, h3.trans g3, h4.trans g4, h5.trans g5, h6.trans g6⟩

end Sys2Proof.Machine
end

