-- ==== Sys2Proof/Laws/Forms.lean ====
section
/-!
SUPPORT. Laws/Forms.lean: the 511 instructions as some sixty forms. `exec` of each form is one shared meaning, and a
property of every instruction is proved form by form (`Instr.forms`; use it with `induction i using Instr.forms`).
-/

namespace Sys2Proof.Machine

/-! ### exec of each form -/

theorem exec_ldRegReg (dst r : Reg8) (s : State) : exec (Instr.ldRegReg dst r) s = ldRegReg dst r s := by
  cases dst <;> cases r <;> rfl

theorem exec_ldRegImm (dst : Reg8) (v : Byte) (s : State) : exec (Instr.ldRegImm dst v) s = ldRegImm dst v s := by
  cases dst <;> rfl

theorem exec_ldRegHl (dst : Reg8) (s : State) : exec (Instr.ldRegHl dst) s = ldRegHl dst s := by
  cases dst <;> rfl

theorem exec_ldHlReg (r : Reg8) (s : State) : exec (Instr.ldHlReg r) s = ldHlReg r s := by
  cases r <;> rfl

theorem exec_ldHlImm (v : Byte) (s : State) : exec (.ldAtHlD8 v) s = ldHlImm v s := rfl

theorem exec_ldAAtBc (s : State) : exec (.ldAAtBc) s = loadA 8 s.cpu.bc s := rfl

theorem exec_ldAAtDe (s : State) : exec (.ldAAtDe) s = loadA 8 s.cpu.de s := rfl

theorem exec_ldAAtA16 (a : Word) (s : State) : exec (.ldAAtA16 a) s = loadA 16 a s := rfl

theorem exec_ldhAAtC (s : State) : exec (.ldhAAtC) s = loadA 8 (highPage s.cpu.c) s := rfl

theorem exec_ldhAAtA8 (n : Byte) (s : State) : exec (.ldhAAtA8 n) s = loadA 12 (highPage n) s := rfl

theorem exec_ldAtBcA (s : State) : exec (.ldAtBcA) s = storeA 8 s.cpu.bc s := rfl

theorem exec_ldAtDeA (s : State) : exec (.ldAtDeA) s = storeA 8 s.cpu.de s := rfl

theorem exec_ldAtA16A (a : Word) (s : State) : exec (.ldAtA16A a) s = storeA 16 a s := rfl

theorem exec_ldhAtCA (s : State) : exec (.ldhAtCA) s = storeA 8 (highPage s.cpu.c) s := rfl

theorem exec_ldhAtA8A (n : Byte) (s : State) : exec (.ldhAtA8A n) s = storeA 12 (highPage n) s := rfl

theorem exec_ldAAtHlInc (s : State) : exec (.ldAAtHlInc) s = loadAHlStep 1 s := rfl

theorem exec_ldAAtHlDec (s : State) : exec (.ldAAtHlDec) s = loadAHlStep (-1) s := rfl

theorem exec_ldAtHlIncA (s : State) : exec (.ldAtHlIncA) s = storeAHlStep 1 s := rfl

theorem exec_ldAtHlDecA (s : State) : exec (.ldAtHlDecA) s = storeAHlStep (-1) s := rfl

theorem exec_ldPairImm (p : Pair) (v : Word) (s : State) : exec (Instr.ldPairImm p v) s = ldPairImm p v s := by
  cases p <;> rfl

theorem exec_ldSpHl (s : State) : exec (.ldSpHl) s = ldSpHl s := rfl

theorem exec_ldAtA16Sp (a : Word) (s : State) : exec (.ldAtA16Sp a) s = storeSp a s := rfl

theorem exec_ldHlSpE8 (e : Byte) (s : State) : exec (.ldHlSpE8 e) s = ldHlSpDisp e s := rfl

theorem exec_addSpE8 (e : Byte) (s : State) : exec (.addSpE8 e) s = addSp e s := rfl

theorem exec_push (p : StackPair) (s : State) : exec (Instr.push p) s = push p s := by
  cases p <;> rfl

theorem exec_pop (p : StackPair) (s : State) : exec (Instr.pop p) s = pop p s := by
  cases p <;> rfl

theorem exec_aluReg (op : AluOp) (r : Reg8) (s : State) : exec (Instr.aluReg op r) s = aluReg op r s := by
  cases op <;> cases r <;> rfl

theorem exec_aluHl (op : AluOp) (s : State) : exec (Instr.aluHl op) s = aluHl op s := by
  cases op <;> rfl

theorem exec_aluImm (op : AluOp) (v : Byte) (s : State) : exec (Instr.aluImm op v) s = aluImm op v s := by
  cases op <;> rfl

theorem exec_incReg (r : Reg8) (s : State) : exec (Instr.incReg r) s = incReg r s := by
  cases r <;> rfl

theorem exec_decReg (r : Reg8) (s : State) : exec (Instr.decReg r) s = decReg r s := by
  cases r <;> rfl

theorem exec_incAtHl (s : State) : exec (.incAtHl) s = incHl s := rfl

theorem exec_decAtHl (s : State) : exec (.decAtHl) s = decHl s := rfl

theorem exec_daa (s : State) : exec (.daa) s = decimalAdjust s := rfl

theorem exec_cpl (s : State) : exec (.cpl) s = complementA s := rfl

theorem exec_scf (s : State) : exec (.scf) s = setCarry s := rfl

theorem exec_ccf (s : State) : exec (.ccf) s = complementCarry s := rfl

theorem exec_addHl (p : Pair) (s : State) : exec (Instr.addHl p) s = addHl p s := by
  cases p <;> rfl

theorem exec_incPair (p : Pair) (s : State) : exec (Instr.incPair p) s = incPair p s := by
  cases p <;> rfl

theorem exec_decPair (p : Pair) (s : State) : exec (Instr.decPair p) s = decPair p s := by
  cases p <;> rfl

theorem exec_rlca (s : State) : exec (.rlca) s = rotAcc .rlc s := rfl

theorem exec_rrca (s : State) : exec (.rrca) s = rotAcc .rrc s := rfl

theorem exec_rla (s : State) : exec (.rla) s = rotAcc .rl s := rfl

theorem exec_rra (s : State) : exec (.rra) s = rotAcc .rr s := rfl

theorem exec_rotReg (op : RotOp) (r : Reg8) (s : State) : exec (Instr.rotReg op r) s = rotReg op r s := by
  cases op <;> cases r <;> rfl

theorem exec_rotHl (op : RotOp) (s : State) : exec (Instr.rotHl op) s = rotHl op s := by
  cases op <;> rfl

theorem exec_bitReg (b : Fin 8) (r : Reg8) (s : State) : exec (Instr.bitReg b r) s = testBitReg b r s := by
  cases r <;> fin_cases b <;> rfl

theorem exec_bitHl (b : Fin 8) (s : State) : exec (Instr.bitHl b) s = testBitHl b s := by
  fin_cases b <;> rfl

theorem exec_resReg (b : Fin 8) (r : Reg8) (s : State) : exec (Instr.resReg b r) s = resetBitReg b r s := by
  cases r <;> fin_cases b <;> rfl

theorem exec_resHl (b : Fin 8) (s : State) : exec (Instr.resHl b) s = resetBitHl b s := by
  fin_cases b <;> rfl

theorem exec_setReg (b : Fin 8) (r : Reg8) (s : State) : exec (Instr.setReg b r) s = setBitReg b r s := by
  cases r <;> fin_cases b <;> rfl

theorem exec_setHl (b : Fin 8) (s : State) : exec (Instr.setHl b) s = setBitHl b s := by
  fin_cases b <;> rfl

theorem exec_jpA16 (a : Word) (s : State) : exec (.jpA16 a) s = jump 16 a s := rfl

theorem exec_jpHl (s : State) : exec (.jpHl) s = jump 4 s.cpu.hl s := rfl

theorem exec_jpIf (cc : Cond) (a : Word) (s : State) : exec (Instr.jpIf cc a) s = jumpIf cc a s := by
  cases cc <;> rfl

theorem exec_jrE8 (e : Byte) (s : State) : exec (.jrE8 e) s = jumpRel e s := rfl

theorem exec_jrIf (cc : Cond) (e : Byte) (s : State) : exec (Instr.jrIf cc e) s = jumpRelIf cc e s := by
  cases cc <;> rfl

theorem exec_callA16 (a : Word) (s : State) : exec (.callA16 a) s = call 24 a s := rfl

theorem exec_callIf (cc : Cond) (a : Word) (s : State) : exec (Instr.callIf cc a) s = callIf cc a s := by
  cases cc <;> rfl

theorem exec_rst (y : Fin 8) (s : State) : exec (Instr.rst y) s = call 16 (BitVec.ofNat 16 (8 * y.val)) s := by
  fin_cases y <;> rfl

theorem exec_ret (s : State) : exec (.ret) s = ret 16 s := rfl

theorem exec_retIf (cc : Cond) (s : State) : exec (Instr.retIf cc) s = retIf cc s := by
  cases cc <;> rfl

theorem exec_reti (s : State) : exec (.reti) s = retInterrupt s := rfl

theorem exec_nop (s : State) : exec (.nop) s = nop s := rfl

theorem exec_stop (v : Byte) (s : State) : exec (.stop v) s = stop s := rfl

theorem exec_halt (s : State) : exec (.halt) s = halt s := rfl

theorem exec_di (s : State) : exec (.di) s = disableInterrupts s := rfl

theorem exec_ei (s : State) : exec (.ei) s = enableInterrupts s := rfl

theorem exec_illegal (i : Instr) (op : Byte) (h : i.invalidOpcode? = some op) (s : State) :
    exec i s = raiseIllegal op s := by
  unfold Instr.invalidOpcode? at h
  split at h <;> first | (cases h; rfl) | cases h

end Sys2Proof.Machine

namespace Sys2Proof

open Machine (Reg8 Pair StackPair Cond AluOp RotOp)

/-- A property that every form has, every instruction has. -/
theorem Instr.forms {P : Instr → Prop}
    (ldRegReg : ∀ (dst r : Reg8), P (Instr.ldRegReg dst r))
    (ldRegImm : ∀ (dst : Reg8) (v : Byte), P (Instr.ldRegImm dst v))
    (ldRegHl : ∀ (dst : Reg8), P (Instr.ldRegHl dst))
    (ldHlReg : ∀ (r : Reg8), P (Instr.ldHlReg r))
    (ldHlImm : ∀ (v : Byte), P (Instr.ldAtHlD8 v))
    (ldAAtBc : P Instr.ldAAtBc)
    (ldAAtDe : P Instr.ldAAtDe)
    (ldAAtA16 : ∀ (a : Word), P (Instr.ldAAtA16 a))
    (ldhAAtC : P Instr.ldhAAtC)
    (ldhAAtA8 : ∀ (n : Byte), P (Instr.ldhAAtA8 n))
    (ldAtBcA : P Instr.ldAtBcA)
    (ldAtDeA : P Instr.ldAtDeA)
    (ldAtA16A : ∀ (a : Word), P (Instr.ldAtA16A a))
    (ldhAtCA : P Instr.ldhAtCA)
    (ldhAtA8A : ∀ (n : Byte), P (Instr.ldhAtA8A n))
    (ldAAtHlInc : P Instr.ldAAtHlInc)
    (ldAAtHlDec : P Instr.ldAAtHlDec)
    (ldAtHlIncA : P Instr.ldAtHlIncA)
    (ldAtHlDecA : P Instr.ldAtHlDecA)
    (ldPairImm : ∀ (p : Pair) (v : Word), P (Instr.ldPairImm p v))
    (ldSpHl : P Instr.ldSpHl)
    (ldAtA16Sp : ∀ (a : Word), P (Instr.ldAtA16Sp a))
    (ldHlSpE8 : ∀ (e : Byte), P (Instr.ldHlSpE8 e))
    (addSpE8 : ∀ (e : Byte), P (Instr.addSpE8 e))
    (push : ∀ (p : StackPair), P (Instr.push p))
    (pop : ∀ (p : StackPair), P (Instr.pop p))
    (aluReg : ∀ (op : AluOp) (r : Reg8), P (Instr.aluReg op r))
    (aluHl : ∀ (op : AluOp), P (Instr.aluHl op))
    (aluImm : ∀ (op : AluOp) (v : Byte), P (Instr.aluImm op v))
    (incReg : ∀ (r : Reg8), P (Instr.incReg r))
    (decReg : ∀ (r : Reg8), P (Instr.decReg r))
    (incAtHl : P Instr.incAtHl)
    (decAtHl : P Instr.decAtHl)
    (daa : P Instr.daa)
    (cpl : P Instr.cpl)
    (scf : P Instr.scf)
    (ccf : P Instr.ccf)
    (addHl : ∀ (p : Pair), P (Instr.addHl p))
    (incPair : ∀ (p : Pair), P (Instr.incPair p))
    (decPair : ∀ (p : Pair), P (Instr.decPair p))
    (rlca : P Instr.rlca)
    (rrca : P Instr.rrca)
    (rla : P Instr.rla)
    (rra : P Instr.rra)
    (rotReg : ∀ (op : RotOp) (r : Reg8), P (Instr.rotReg op r))
    (rotHl : ∀ (op : RotOp), P (Instr.rotHl op))
    (bitReg : ∀ (b : Fin 8) (r : Reg8), P (Instr.bitReg b r))
    (bitHl : ∀ (b : Fin 8), P (Instr.bitHl b))
    (resReg : ∀ (b : Fin 8) (r : Reg8), P (Instr.resReg b r))
    (resHl : ∀ (b : Fin 8), P (Instr.resHl b))
    (setReg : ∀ (b : Fin 8) (r : Reg8), P (Instr.setReg b r))
    (setHl : ∀ (b : Fin 8), P (Instr.setHl b))
    (jpA16 : ∀ (a : Word), P (Instr.jpA16 a))
    (jpHl : P Instr.jpHl)
    (jpIf : ∀ (cc : Cond) (a : Word), P (Instr.jpIf cc a))
    (jrE8 : ∀ (e : Byte), P (Instr.jrE8 e))
    (jrIf : ∀ (cc : Cond) (e : Byte), P (Instr.jrIf cc e))
    (callA16 : ∀ (a : Word), P (Instr.callA16 a))
    (callIf : ∀ (cc : Cond) (a : Word), P (Instr.callIf cc a))
    (rst : ∀ (y : Fin 8), P (Instr.rst y))
    (ret : P Instr.ret)
    (retIf : ∀ (cc : Cond), P (Instr.retIf cc))
    (reti : P Instr.reti)
    (nop : P Instr.nop)
    (stop : ∀ (v : Byte), P (Instr.stop v))
    (halt : P Instr.halt)
    (di : P Instr.di)
    (ei : P Instr.ei)
    (illegal : ∀ (i : Instr) (op : Byte), i.invalidOpcode? = some op → P i)
    (i : Instr) : P i :=
  match i with
  | .nop => nop
  | .ldBcD16 v => ldPairImm .bc v
  | .ldAtBcA => ldAtBcA
  | .incBc => incPair .bc
  | .incB => incReg .b
  | .decB => decReg .b
  | .ldBD8 v => ldRegImm .b v
  | .rlca => rlca
  | .ldAtA16Sp a => ldAtA16Sp a
  | .addHlBc => addHl .bc
  | .ldAAtBc => ldAAtBc
  | .decBc => decPair .bc
  | .incC => incReg .c
  | .decC => decReg .c
  | .ldCD8 v => ldRegImm .c v
  | .rrca => rrca
  | .stop v => stop v
  | .ldDeD16 v => ldPairImm .de v
  | .ldAtDeA => ldAtDeA
  | .incDe => incPair .de
  | .incD => incReg .d
  | .decD => decReg .d
  | .ldDD8 v => ldRegImm .d v
  | .rla => rla
  | .jrE8 e => jrE8 e
  | .addHlDe => addHl .de
  | .ldAAtDe => ldAAtDe
  | .decDe => decPair .de
  | .incE => incReg .e
  | .decE => decReg .e
  | .ldED8 v => ldRegImm .e v
  | .rra => rra
  | .jrNzE8 v => jrIf .nz v
  | .ldHlD16 v => ldPairImm .hl v
  | .ldAtHlIncA => ldAtHlIncA
  | .incHl => incPair .hl
  | .incH => incReg .h
  | .decH => decReg .h
  | .ldHD8 v => ldRegImm .h v
  | .daa => daa
  | .jrZE8 v => jrIf .z v
  | .addHlHl => addHl .hl
  | .ldAAtHlInc => ldAAtHlInc
  | .decHl => decPair .hl
  | .incL => incReg .l
  | .decL => decReg .l
  | .ldLD8 v => ldRegImm .l v
  | .cpl => cpl
  | .jrNcE8 v => jrIf .nc v
  | .ldSpD16 v => ldPairImm .sp v
  | .ldAtHlDecA => ldAtHlDecA
  | .incSp => incPair .sp
  | .incAtHl => incAtHl
  | .decAtHl => decAtHl
  | .ldAtHlD8 v => ldHlImm v
  | .scf => scf
  | .jrCE8 v => jrIf .c v
  | .addHlSp => addHl .sp
  | .ldAAtHlDec => ldAAtHlDec
  | .decSp => decPair .sp
  | .incA => incReg .a
  | .decA => decReg .a
  | .ldAD8 v => ldRegImm .a v
  | .ccf => ccf
  | .ldBB => ldRegReg .b .b
  | .ldBC => ldRegReg .b .c
  | .ldBD => ldRegReg .b .d
  | .ldBE => ldRegReg .b .e
  | .ldBH => ldRegReg .b .h
  | .ldBL => ldRegReg .b .l
  | .ldBAtHl => ldRegHl .b
  | .ldBA => ldRegReg .b .a
  | .ldCB => ldRegReg .c .b
  | .ldCC => ldRegReg .c .c
  | .ldCD => ldRegReg .c .d
  | .ldCE => ldRegReg .c .e
  | .ldCH => ldRegReg .c .h
  | .ldCL => ldRegReg .c .l
  | .ldCAtHl => ldRegHl .c
  | .ldCA => ldRegReg .c .a
  | .ldDB => ldRegReg .d .b
  | .ldDC => ldRegReg .d .c
  | .ldDD => ldRegReg .d .d
  | .ldDE => ldRegReg .d .e
  | .ldDH => ldRegReg .d .h
  | .ldDL => ldRegReg .d .l
  | .ldDAtHl => ldRegHl .d
  | .ldDA => ldRegReg .d .a
  | .ldEB => ldRegReg .e .b
  | .ldEC => ldRegReg .e .c
  | .ldED => ldRegReg .e .d
  | .ldEE => ldRegReg .e .e
  | .ldEH => ldRegReg .e .h
  | .ldEL => ldRegReg .e .l
  | .ldEAtHl => ldRegHl .e
  | .ldEA => ldRegReg .e .a
  | .ldHB => ldRegReg .h .b
  | .ldHC => ldRegReg .h .c
  | .ldHD => ldRegReg .h .d
  | .ldHE => ldRegReg .h .e
  | .ldHH => ldRegReg .h .h
  | .ldHL => ldRegReg .h .l
  | .ldHAtHl => ldRegHl .h
  | .ldHA => ldRegReg .h .a
  | .ldLB => ldRegReg .l .b
  | .ldLC => ldRegReg .l .c
  | .ldLD => ldRegReg .l .d
  | .ldLE => ldRegReg .l .e
  | .ldLH => ldRegReg .l .h
  | .ldLL => ldRegReg .l .l
  | .ldLAtHl => ldRegHl .l
  | .ldLA => ldRegReg .l .a
  | .ldAtHlB => ldHlReg .b
  | .ldAtHlC => ldHlReg .c
  | .ldAtHlD => ldHlReg .d
  | .ldAtHlE => ldHlReg .e
  | .ldAtHlH => ldHlReg .h
  | .ldAtHlL => ldHlReg .l
  | .halt => halt
  | .ldAtHlA => ldHlReg .a
  | .ldAB => ldRegReg .a .b
  | .ldAC => ldRegReg .a .c
  | .ldAD => ldRegReg .a .d
  | .ldAE => ldRegReg .a .e
  | .ldAH => ldRegReg .a .h
  | .ldAL => ldRegReg .a .l
  | .ldAAtHl => ldRegHl .a
  | .ldAA => ldRegReg .a .a
  | .addAB => aluReg .add .b
  | .addAC => aluReg .add .c
  | .addAD => aluReg .add .d
  | .addAE => aluReg .add .e
  | .addAH => aluReg .add .h
  | .addAL => aluReg .add .l
  | .addAAtHl => aluHl .add
  | .addAA => aluReg .add .a
  | .adcAB => aluReg .adc .b
  | .adcAC => aluReg .adc .c
  | .adcAD => aluReg .adc .d
  | .adcAE => aluReg .adc .e
  | .adcAH => aluReg .adc .h
  | .adcAL => aluReg .adc .l
  | .adcAAtHl => aluHl .adc
  | .adcAA => aluReg .adc .a
  | .subB => aluReg .sub .b
  | .subC => aluReg .sub .c
  | .subD => aluReg .sub .d
  | .subE => aluReg .sub .e
  | .subH => aluReg .sub .h
  | .subL => aluReg .sub .l
  | .subAtHl => aluHl .sub
  | .subA => aluReg .sub .a
  | .sbcAB => aluReg .sbc .b
  | .sbcAC => aluReg .sbc .c
  | .sbcAD => aluReg .sbc .d
  | .sbcAE => aluReg .sbc .e
  | .sbcAH => aluReg .sbc .h
  | .sbcAL => aluReg .sbc .l
  | .sbcAAtHl => aluHl .sbc
  | .sbcAA => aluReg .sbc .a
  | .andB => aluReg .and .b
  | .andC => aluReg .and .c
  | .andD => aluReg .and .d
  | .andE => aluReg .and .e
  | .andH => aluReg .and .h
  | .andL => aluReg .and .l
  | .andAtHl => aluHl .and
  | .andA => aluReg .and .a
  | .xorB => aluReg .xor .b
  | .xorC => aluReg .xor .c
  | .xorD => aluReg .xor .d
  | .xorE => aluReg .xor .e
  | .xorH => aluReg .xor .h
  | .xorL => aluReg .xor .l
  | .xorAtHl => aluHl .xor
  | .xorA => aluReg .xor .a
  | .orB => aluReg .or .b
  | .orC => aluReg .or .c
  | .orD => aluReg .or .d
  | .orE => aluReg .or .e
  | .orH => aluReg .or .h
  | .orL => aluReg .or .l
  | .orAtHl => aluHl .or
  | .orA => aluReg .or .a
  | .cpB => aluReg .cp .b
  | .cpC => aluReg .cp .c
  | .cpD => aluReg .cp .d
  | .cpE => aluReg .cp .e
  | .cpH => aluReg .cp .h
  | .cpL => aluReg .cp .l
  | .cpAtHl => aluHl .cp
  | .cpA => aluReg .cp .a
  | .retNz => retIf .nz
  | .popBc => pop .bc
  | .jpNzA16 v => jpIf .nz v
  | .jpA16 a => jpA16 a
  | .callNzA16 v => callIf .nz v
  | .pushBc => push .bc
  | .addAD8 v => aluImm .add v
  | .rst00 => rst 0
  | .retZ => retIf .z
  | .ret => ret
  | .jpZA16 v => jpIf .z v
  | .callZA16 v => callIf .z v
  | .callA16 a => callA16 a
  | .adcAD8 v => aluImm .adc v
  | .rst08 => rst 1
  | .retNc => retIf .nc
  | .popDe => pop .de
  | .jpNcA16 v => jpIf .nc v
  | .illegalD3 => illegal _ 0xD3 rfl
  | .callNcA16 v => callIf .nc v
  | .pushDe => push .de
  | .subD8 v => aluImm .sub v
  | .rst10 => rst 2
  | .retC => retIf .c
  | .reti => reti
  | .jpCA16 v => jpIf .c v
  | .illegalDB => illegal _ 0xDB rfl
  | .callCA16 v => callIf .c v
  | .illegalDD => illegal _ 0xDD rfl
  | .sbcAD8 v => aluImm .sbc v
  | .rst18 => rst 3
  | .ldhAtA8A n => ldhAtA8A n
  | .popHl => pop .hl
  | .ldhAtCA => ldhAtCA
  | .illegalE3 => illegal _ 0xE3 rfl
  | .illegalE4 => illegal _ 0xE4 rfl
  | .pushHl => push .hl
  | .andD8 v => aluImm .and v
  | .rst20 => rst 4
  | .addSpE8 e => addSpE8 e
  | .jpHl => jpHl
  | .ldAtA16A a => ldAtA16A a
  | .illegalEB => illegal _ 0xEB rfl
  | .illegalEC => illegal _ 0xEC rfl
  | .illegalED => illegal _ 0xED rfl
  | .xorD8 v => aluImm .xor v
  | .rst28 => rst 5
  | .ldhAAtA8 n => ldhAAtA8 n
  | .popAf => pop .af
  | .ldhAAtC => ldhAAtC
  | .di => di
  | .illegalF4 => illegal _ 0xF4 rfl
  | .pushAf => push .af
  | .orD8 v => aluImm .or v
  | .rst30 => rst 6
  | .ldHlSpE8 e => ldHlSpE8 e
  | .ldSpHl => ldSpHl
  | .ldAAtA16 a => ldAAtA16 a
  | .ei => ei
  | .illegalFC => illegal _ 0xFC rfl
  | .illegalFD => illegal _ 0xFD rfl
  | .cpD8 v => aluImm .cp v
  | .rst38 => rst 7
  | .rlcB => rotReg .rlc .b
  | .rlcC => rotReg .rlc .c
  | .rlcD => rotReg .rlc .d
  | .rlcE => rotReg .rlc .e
  | .rlcH => rotReg .rlc .h
  | .rlcL => rotReg .rlc .l
  | .rlcAtHl => rotHl .rlc
  | .rlcA => rotReg .rlc .a
  | .rrcB => rotReg .rrc .b
  | .rrcC => rotReg .rrc .c
  | .rrcD => rotReg .rrc .d
  | .rrcE => rotReg .rrc .e
  | .rrcH => rotReg .rrc .h
  | .rrcL => rotReg .rrc .l
  | .rrcAtHl => rotHl .rrc
  | .rrcA => rotReg .rrc .a
  | .rlB => rotReg .rl .b
  | .rlC => rotReg .rl .c
  | .rlD => rotReg .rl .d
  | .rlE => rotReg .rl .e
  | .rlH => rotReg .rl .h
  | .rlL => rotReg .rl .l
  | .rlAtHl => rotHl .rl
  | .rlA => rotReg .rl .a
  | .rrB => rotReg .rr .b
  | .rrC => rotReg .rr .c
  | .rrD => rotReg .rr .d
  | .rrE => rotReg .rr .e
  | .rrH => rotReg .rr .h
  | .rrL => rotReg .rr .l
  | .rrAtHl => rotHl .rr
  | .rrA => rotReg .rr .a
  | .slaB => rotReg .sla .b
  | .slaC => rotReg .sla .c
  | .slaD => rotReg .sla .d
  | .slaE => rotReg .sla .e
  | .slaH => rotReg .sla .h
  | .slaL => rotReg .sla .l
  | .slaAtHl => rotHl .sla
  | .slaA => rotReg .sla .a
  | .sraB => rotReg .sra .b
  | .sraC => rotReg .sra .c
  | .sraD => rotReg .sra .d
  | .sraE => rotReg .sra .e
  | .sraH => rotReg .sra .h
  | .sraL => rotReg .sra .l
  | .sraAtHl => rotHl .sra
  | .sraA => rotReg .sra .a
  | .swapB => rotReg .swap .b
  | .swapC => rotReg .swap .c
  | .swapD => rotReg .swap .d
  | .swapE => rotReg .swap .e
  | .swapH => rotReg .swap .h
  | .swapL => rotReg .swap .l
  | .swapAtHl => rotHl .swap
  | .swapA => rotReg .swap .a
  | .srlB => rotReg .srl .b
  | .srlC => rotReg .srl .c
  | .srlD => rotReg .srl .d
  | .srlE => rotReg .srl .e
  | .srlH => rotReg .srl .h
  | .srlL => rotReg .srl .l
  | .srlAtHl => rotHl .srl
  | .srlA => rotReg .srl .a
  | .bit0B => bitReg 0 .b
  | .bit0C => bitReg 0 .c
  | .bit0D => bitReg 0 .d
  | .bit0E => bitReg 0 .e
  | .bit0H => bitReg 0 .h
  | .bit0L => bitReg 0 .l
  | .bit0AtHl => bitHl 0
  | .bit0A => bitReg 0 .a
  | .bit1B => bitReg 1 .b
  | .bit1C => bitReg 1 .c
  | .bit1D => bitReg 1 .d
  | .bit1E => bitReg 1 .e
  | .bit1H => bitReg 1 .h
  | .bit1L => bitReg 1 .l
  | .bit1AtHl => bitHl 1
  | .bit1A => bitReg 1 .a
  | .bit2B => bitReg 2 .b
  | .bit2C => bitReg 2 .c
  | .bit2D => bitReg 2 .d
  | .bit2E => bitReg 2 .e
  | .bit2H => bitReg 2 .h
  | .bit2L => bitReg 2 .l
  | .bit2AtHl => bitHl 2
  | .bit2A => bitReg 2 .a
  | .bit3B => bitReg 3 .b
  | .bit3C => bitReg 3 .c
  | .bit3D => bitReg 3 .d
  | .bit3E => bitReg 3 .e
  | .bit3H => bitReg 3 .h
  | .bit3L => bitReg 3 .l
  | .bit3AtHl => bitHl 3
  | .bit3A => bitReg 3 .a
  | .bit4B => bitReg 4 .b
  | .bit4C => bitReg 4 .c
  | .bit4D => bitReg 4 .d
  | .bit4E => bitReg 4 .e
  | .bit4H => bitReg 4 .h
  | .bit4L => bitReg 4 .l
  | .bit4AtHl => bitHl 4
  | .bit4A => bitReg 4 .a
  | .bit5B => bitReg 5 .b
  | .bit5C => bitReg 5 .c
  | .bit5D => bitReg 5 .d
  | .bit5E => bitReg 5 .e
  | .bit5H => bitReg 5 .h
  | .bit5L => bitReg 5 .l
  | .bit5AtHl => bitHl 5
  | .bit5A => bitReg 5 .a
  | .bit6B => bitReg 6 .b
  | .bit6C => bitReg 6 .c
  | .bit6D => bitReg 6 .d
  | .bit6E => bitReg 6 .e
  | .bit6H => bitReg 6 .h
  | .bit6L => bitReg 6 .l
  | .bit6AtHl => bitHl 6
  | .bit6A => bitReg 6 .a
  | .bit7B => bitReg 7 .b
  | .bit7C => bitReg 7 .c
  | .bit7D => bitReg 7 .d
  | .bit7E => bitReg 7 .e
  | .bit7H => bitReg 7 .h
  | .bit7L => bitReg 7 .l
  | .bit7AtHl => bitHl 7
  | .bit7A => bitReg 7 .a
  | .res0B => resReg 0 .b
  | .res0C => resReg 0 .c
  | .res0D => resReg 0 .d
  | .res0E => resReg 0 .e
  | .res0H => resReg 0 .h
  | .res0L => resReg 0 .l
  | .res0AtHl => resHl 0
  | .res0A => resReg 0 .a
  | .res1B => resReg 1 .b
  | .res1C => resReg 1 .c
  | .res1D => resReg 1 .d
  | .res1E => resReg 1 .e
  | .res1H => resReg 1 .h
  | .res1L => resReg 1 .l
  | .res1AtHl => resHl 1
  | .res1A => resReg 1 .a
  | .res2B => resReg 2 .b
  | .res2C => resReg 2 .c
  | .res2D => resReg 2 .d
  | .res2E => resReg 2 .e
  | .res2H => resReg 2 .h
  | .res2L => resReg 2 .l
  | .res2AtHl => resHl 2
  | .res2A => resReg 2 .a
  | .res3B => resReg 3 .b
  | .res3C => resReg 3 .c
  | .res3D => resReg 3 .d
  | .res3E => resReg 3 .e
  | .res3H => resReg 3 .h
  | .res3L => resReg 3 .l
  | .res3AtHl => resHl 3
  | .res3A => resReg 3 .a
  | .res4B => resReg 4 .b
  | .res4C => resReg 4 .c
  | .res4D => resReg 4 .d
  | .res4E => resReg 4 .e
  | .res4H => resReg 4 .h
  | .res4L => resReg 4 .l
  | .res4AtHl => resHl 4
  | .res4A => resReg 4 .a
  | .res5B => resReg 5 .b
  | .res5C => resReg 5 .c
  | .res5D => resReg 5 .d
  | .res5E => resReg 5 .e
  | .res5H => resReg 5 .h
  | .res5L => resReg 5 .l
  | .res5AtHl => resHl 5
  | .res5A => resReg 5 .a
  | .res6B => resReg 6 .b
  | .res6C => resReg 6 .c
  | .res6D => resReg 6 .d
  | .res6E => resReg 6 .e
  | .res6H => resReg 6 .h
  | .res6L => resReg 6 .l
  | .res6AtHl => resHl 6
  | .res6A => resReg 6 .a
  | .res7B => resReg 7 .b
  | .res7C => resReg 7 .c
  | .res7D => resReg 7 .d
  | .res7E => resReg 7 .e
  | .res7H => resReg 7 .h
  | .res7L => resReg 7 .l
  | .res7AtHl => resHl 7
  | .res7A => resReg 7 .a
  | .set0B => setReg 0 .b
  | .set0C => setReg 0 .c
  | .set0D => setReg 0 .d
  | .set0E => setReg 0 .e
  | .set0H => setReg 0 .h
  | .set0L => setReg 0 .l
  | .set0AtHl => setHl 0
  | .set0A => setReg 0 .a
  | .set1B => setReg 1 .b
  | .set1C => setReg 1 .c
  | .set1D => setReg 1 .d
  | .set1E => setReg 1 .e
  | .set1H => setReg 1 .h
  | .set1L => setReg 1 .l
  | .set1AtHl => setHl 1
  | .set1A => setReg 1 .a
  | .set2B => setReg 2 .b
  | .set2C => setReg 2 .c
  | .set2D => setReg 2 .d
  | .set2E => setReg 2 .e
  | .set2H => setReg 2 .h
  | .set2L => setReg 2 .l
  | .set2AtHl => setHl 2
  | .set2A => setReg 2 .a
  | .set3B => setReg 3 .b
  | .set3C => setReg 3 .c
  | .set3D => setReg 3 .d
  | .set3E => setReg 3 .e
  | .set3H => setReg 3 .h
  | .set3L => setReg 3 .l
  | .set3AtHl => setHl 3
  | .set3A => setReg 3 .a
  | .set4B => setReg 4 .b
  | .set4C => setReg 4 .c
  | .set4D => setReg 4 .d
  | .set4E => setReg 4 .e
  | .set4H => setReg 4 .h
  | .set4L => setReg 4 .l
  | .set4AtHl => setHl 4
  | .set4A => setReg 4 .a
  | .set5B => setReg 5 .b
  | .set5C => setReg 5 .c
  | .set5D => setReg 5 .d
  | .set5E => setReg 5 .e
  | .set5H => setReg 5 .h
  | .set5L => setReg 5 .l
  | .set5AtHl => setHl 5
  | .set5A => setReg 5 .a
  | .set6B => setReg 6 .b
  | .set6C => setReg 6 .c
  | .set6D => setReg 6 .d
  | .set6E => setReg 6 .e
  | .set6H => setReg 6 .h
  | .set6L => setReg 6 .l
  | .set6AtHl => setHl 6
  | .set6A => setReg 6 .a
  | .set7B => setReg 7 .b
  | .set7C => setReg 7 .c
  | .set7D => setReg 7 .d
  | .set7E => setReg 7 .e
  | .set7H => setReg 7 .h
  | .set7L => setReg 7 .l
  | .set7AtHl => setHl 7
  | .set7A => setReg 7 .a

end Sys2Proof
end

