-- ==== Sys2Proof/Laws/Exec.lean ====
section
/-!
SUPPORT. Laws/Exec.lean: what one instruction and one step can do, said once: `exec_effect` and `step_next`. A proof about
every instruction or every step cites these and never unfolds a meaning.
-/

namespace Sys2Proof.Machine

/-! ### Bus writes and the CPU -/

@[simp] theorem State.cpu_busWrites (s : State) (l : List (Word × Byte)) : (s.busWrites l).cpu = s.cpu := by
  induction l generalizing s with
  | nil => rfl
  | cons w l ih => rw [State.busWrites_cons, ih, State.cpu_busWrite]

@[simp] theorem State.env_busWrites (s : State) (l : List (Word × Byte)) : (s.busWrites l).env = s.env := by
  induction l generalizing s with
  | nil => rfl
  | cons w l ih => rw [State.busWrites_cons, ih, State.env_busWrite]

@[simp] theorem State.cycles_busWrites (s : State) (l : List (Word × Byte)) : (s.busWrites l).cycles = s.cycles := by
  induction l generalizing s with
  | nil => rfl
  | cons w l ih => rw [State.busWrites_cons, ih, State.cycles_busWrite]

/-- What bus writes keep, one by one, a list of them keeps. -/
theorem State.busWrites_induct {P : State → Prop} (hw : ∀ s a v, P s → P (s.busWrite a v)) {s : State} (h : P s)
    (l : List (Word × Byte)) : P (s.busWrites l) := by
  induction l generalizing s with
  | nil => exact h
  | cons w l ih => exact ih (hw s w.1 w.2 h)

/-! ### The CPU fields that only a few instructions write -/

/-- The EI delay, the halt bits and the FATAL record are the same. -/
structure Cpu.Quiet (k j : Cpu) : Prop where
  fatal : j.fatal = k.fatal
  illegalOp : j.illegalOp = k.illegalOp
  halted : j.halted = k.halted
  haltBug : j.haltBug = k.haltBug
  imeDelay : j.imeDelay = k.imeDelay

theorem Cpu.Quiet.refl (k : Cpu) : k.Quiet k := ⟨rfl, rfl, rfl, rfl, rfl⟩

theorem Cpu.Quiet.setReg (k : Cpu) (r : Reg8) (v : Byte) : k.Quiet (k.setReg r v) := by
  cases r <;> exact ⟨rfl, rfl, rfl, rfl, rfl⟩

theorem Cpu.Quiet.setPair (k : Cpu) (p : Pair) (v : Word) : k.Quiet (k.setPair p v) := by
  cases p <;> exact ⟨rfl, rfl, rfl, rfl, rfl⟩

theorem Cpu.Quiet.setStackPair (k : Cpu) (p : StackPair) (v : Word) : k.Quiet (k.setStackPair p v) := by
  cases p <;> exact ⟨rfl, rfl, rfl, rfl, rfl⟩

theorem Cpu.Quiet.trans {k j l : Cpu} (h : k.Quiet j) (h' : j.Quiet l) : k.Quiet l :=
  ⟨h'.1.trans h.1, h'.2.trans h.2, h'.3.trans h.3, h'.4.trans h.4, h'.5.trans h.5⟩

theorem Cpu.Quiet.setFlags {k j : Cpu} (h : k.Quiet j) (f : Flags) : k.Quiet { j with f := f } := ⟨h.1, h.2, h.3, h.4, h.5⟩

/-- What the state `t` after an instruction can be, seen from the state `s` before it. -/
structure ExecEffect (s t : State) : Prop where
  /-- outside the CPU and the cycle count there are bus writes only -/
  outside : ∃ l : List (Word × Byte), t = { s.busWrites l with cpu := t.cpu, cycles := t.cycles }
  /-- 4 to 24 cycles, or the machine is FATAL and there is no count -/
  ends :
    (t.cpu.fatal = s.cpu.fatal ∧ t.cpu.illegalOp = s.cpu.illegalOp ∧ ∃ n, 1 ≤ n ∧ n ≤ 6 ∧ t.cycles = some (4 * n)) ∨
      (t.cpu.fatal = true ∧ t.cpu.illegalOp.isSome = true ∧ t.cycles = none)
  /-- HALT sets one of the two halt bits -/
  halt :
    (t.cpu.halted = s.cpu.halted ∧ t.cpu.haltBug = s.cpu.haltBug) ∨
      (t.cpu.halted = s.cpu.halted ∧ t.cpu.haltBug = true) ∨ (t.cpu.halted = true ∧ t.cpu.haltBug = s.cpu.haltBug)
  /-- DI and RETI clear the EI delay, EI arms it -/
  delay : t.cpu.imeDelay = s.cpu.imeDelay ∨ t.cpu.imeDelay = 0 ∨ t.cpu.imeDelay = 2

/-- The result is a next state with such an effect. -/
def Result.Goes (r : Result) (s : State) : Prop := ∃ t, r = .next t ∧ ExecEffect s t

theorem Result.goes_quiet (s : State) (l : List (Word × Byte)) {k : Cpu} (n : Nat) (hk : s.cpu.Quiet k) (h1 : 1 ≤ n)
    (h6 : n ≤ 6) : Result.Goes (.next { s.busWrites l with cpu := k, cycles := some (4 * n) }) s :=
  ⟨_, rfl, ⟨⟨l, rfl⟩, .inl ⟨hk.fatal, hk.illegalOp, n, h1, h6, rfl⟩, .inl ⟨hk.halted, hk.haltBug⟩, .inl hk.imeDelay⟩⟩

/-- An instruction that writes registers only, in `4 * n` cycles. -/
theorem Result.goes_cpu (s : State) {k : Cpu} (n : Nat) (hk : s.cpu.Quiet k) (h1 : 1 ≤ n := by decide)
    (h6 : n ≤ 6 := by decide) : Result.Goes (finish (4 * n) { s with cpu := k }) s :=
  Result.goes_quiet s [] n hk h1 h6

/-- An instruction that makes one bus write. -/
theorem Result.goes_write (s : State) (a : Word) (v : Byte) {k : Cpu} (n : Nat) (hk : s.cpu.Quiet k)
    (h1 : 1 ≤ n := by decide) (h6 : n ≤ 6 := by decide) :
    Result.Goes (finish (4 * n) { s.busWrite a v with cpu := k }) s :=
  Result.goes_quiet s [(a, v)] n hk h1 h6

/-- A push and a change of PC. -/
theorem Result.goes_push (s : State) (v a : Word) (n : Nat) (h1 : 1 ≤ n := by decide) (h6 : n ≤ 6 := by decide) :
    Result.Goes (finish (4 * n) ((s.push16 v).setPc a)) s := by
  rw [State.push16_eq]
  exact Result.goes_quiet s (pushWrites s.cpu.sp v) n ⟨rfl, rfl, rfl, rfl, rfl⟩ h1 h6

theorem Result.goes_ite {s : State} {c : Bool} {r₁ r₂ : Result} (h₁ : r₁.Goes s) (h₂ : r₂.Goes s) :
    Result.Goes (if c then r₁ else r₂) s := by
  cases c <;> assumption

/-- A bus write that leaves the registers as they are. -/
theorem Result.goes_store (s : State) (a : Word) (v : Byte) (n : Nat) (h1 : 1 ≤ n := by decide) (h6 : n ≤ 6 := by decide) :
    Result.Goes (finish (4 * n) (s.busWrite a v)) s := by
  have h := Result.goes_write s a v n (Cpu.Quiet.refl s.cpu) h1 h6
  rwa [show ({ s.busWrite a v with cpu := s.cpu } : State) = s.busWrite a v by
    rw [← State.cpu_busWrite s a v]] at h

theorem goes_nop (s : State) (n : Nat) (h1 : 1 ≤ n := by decide) (h6 : n ≤ 6 := by decide) :
    Result.Goes (finish (4 * n) s) s := Result.goes_cpu s n (Cpu.Quiet.refl s.cpu) h1 h6

theorem goes_call (s : State) (a : Word) (n : Nat) (h1 : 1 ≤ n := by decide) (h6 : n ≤ 6 := by decide) :
    (call (4 * n) a s).Goes s := Result.goes_push s s.cpu.pc a n h1 h6

theorem goes_halt (s : State) : (halt s).Goes s := by
  unfold halt
  split
  · exact ⟨_, rfl, ⟨⟨[], rfl⟩, .inl ⟨rfl, rfl, 1, by decide, by decide, rfl⟩, .inr (.inl ⟨rfl, rfl⟩), .inl rfl⟩⟩
  · exact ⟨_, rfl, ⟨⟨[], rfl⟩, .inl ⟨rfl, rfl, 1, by decide, by decide, rfl⟩, .inr (.inr ⟨rfl, rfl⟩), .inl rfl⟩⟩

theorem goes_di (s : State) : (disableInterrupts s).Goes s :=
  ⟨_, rfl, ⟨⟨[], rfl⟩, .inl ⟨rfl, rfl, 1, by decide, by decide, rfl⟩, .inl ⟨rfl, rfl⟩, .inr (.inl rfl)⟩⟩

theorem goes_ei (s : State) : (enableInterrupts s).Goes s := by
  refine ⟨_, rfl, ⟨⟨[], rfl⟩, .inl ⟨rfl, rfl, 1, by decide, by decide, rfl⟩, .inl ⟨rfl, rfl⟩, ?_⟩⟩
  show (if s.cpu.imeDelay = 0 then 2 else s.cpu.imeDelay) = _ ∨ _
  split
  · exact .inr (.inr rfl)
  · exact .inl rfl

theorem goes_reti (s : State) : (retInterrupt s).Goes s :=
  ⟨_, rfl, ⟨⟨[], rfl⟩, .inl ⟨rfl, rfl, 4, by decide, by decide, rfl⟩, .inl ⟨rfl, rfl⟩, .inr (.inl rfl)⟩⟩

theorem goes_illegal (op : Byte) (s : State) : (raiseIllegal op s).Goes s :=
  ⟨_, rfl, ⟨⟨[], rfl⟩, .inr ⟨rfl, rfl, rfl⟩, .inl ⟨rfl, rfl⟩, .inl rfl⟩⟩

theorem goes_storeSp (a : Word) (s : State) : (storeSp a s).Goes s := by
  have h := Result.goes_quiet s [(a, s.cpu.sp.lo), (a + 1, s.cpu.sp.hi)] 5 (Cpu.Quiet.refl s.cpu) (by decide) (by decide)
  rwa [show ({ s.busWrites [(a, s.cpu.sp.lo), (a + 1, s.cpu.sp.hi)] with cpu := s.cpu, cycles := some (4 * 5) } : State) =
      { s.busWrite16 a s.cpu.sp with cycles := some 20 } by
    rw [← State.cpu_busWrites s [(a, s.cpu.sp.lo), (a + 1, s.cpu.sp.hi)]]
    simp [State.busWrite16]] at h

/-- Every instruction goes on to a next state, but for STOP under STOP_BEHAVIOUR = refuse. -/
theorem exec_effect (i : Instr) (s : State) :
    Result.Goes (exec i s) s ∨ (exec i s = .refused .stopNotSpecified ∧ s.env.stop = .refuse) := by
  induction i using Instr.forms with
  | stop v =>
    rw [exec_stop]
    unfold stop
    cases h : s.env.stop
    · exact .inl (goes_nop s 1)
    · exact .inr ⟨rfl, rfl⟩
  | ldRegReg dst r => rw [exec_ldRegReg]; exact .inl (Result.goes_cpu s 1 (.setReg _ _ _))
  | ldRegImm dst v => rw [exec_ldRegImm]; exact .inl (Result.goes_cpu s 2 (.setReg _ _ _))
  | ldRegHl dst => rw [exec_ldRegHl]; exact .inl (Result.goes_cpu s 2 (.setReg _ _ _))
  | ldHlReg r => rw [exec_ldHlReg]; exact .inl (Result.goes_store s _ _ 2)
  | ldHlImm v => exact .inl (Result.goes_store s _ _ 3)
  | ldAAtBc => exact .inl (Result.goes_cpu s 2 (.setReg _ .a _))
  | ldAAtDe => exact .inl (Result.goes_cpu s 2 (.setReg _ .a _))
  | ldAAtA16 a => exact .inl (Result.goes_cpu s 4 (.setReg _ .a _))
  | ldhAAtC => exact .inl (Result.goes_cpu s 2 (.setReg _ .a _))
  | ldhAAtA8 n => exact .inl (Result.goes_cpu s 3 (.setReg _ .a _))
  | ldAtBcA => exact .inl (Result.goes_store s _ _ 2)
  | ldAtDeA => exact .inl (Result.goes_store s _ _ 2)
  | ldAtA16A a => exact .inl (Result.goes_store s _ _ 4)
  | ldhAtCA => exact .inl (Result.goes_store s _ _ 2)
  | ldhAtA8A n => exact .inl (Result.goes_store s _ _ 3)
  | ldAAtHlInc => exact .inl (Result.goes_cpu s 2 (.trans (.setReg _ .a _) (.setPair _ .hl _)))
  | ldAAtHlDec => exact .inl (Result.goes_cpu s 2 (.trans (.setReg _ .a _) (.setPair _ .hl _)))
  | ldAtHlIncA =>
    rw [exec_ldAtHlIncA]
    simp only [storeAHlStep, State.writeHl, State.setPair, State.cpu_busWrite]
    exact .inl (Result.goes_write s _ _ 2 (.setPair _ .hl _))
  | ldAtHlDecA =>
    rw [exec_ldAtHlDecA]
    simp only [storeAHlStep, State.writeHl, State.setPair, State.cpu_busWrite]
    exact .inl (Result.goes_write s _ _ 2 (.setPair _ .hl _))
  | ldPairImm p v => rw [exec_ldPairImm]; exact .inl (Result.goes_cpu s 3 (.setPair _ _ _))
  | ldSpHl => exact .inl (Result.goes_cpu s 2 (.setPair _ .sp _))
  | ldAtA16Sp a => exact .inl (goes_storeSp a s)
  | ldHlSpE8 e => exact .inl (Result.goes_cpu s 3 (Cpu.Quiet.setFlags (.setPair _ .hl _) _))
  | addSpE8 e => exact .inl (Result.goes_cpu s 4 (Cpu.Quiet.setFlags (.setPair _ .sp _) _))
  | push p =>
    rw [exec_push]
    have h := Result.goes_push s (s.cpu.stackPair p) (s.push16 (s.cpu.stackPair p)).cpu.pc 4
    exact .inl h
  | pop p =>
    rw [exec_pop]
    exact .inl (Result.goes_cpu s 3 (.trans (.setPair _ .sp _) (.setStackPair _ p _)))
  | aluReg op r => rw [exec_aluReg]; exact .inl (Result.goes_cpu s 1 ⟨rfl, rfl, rfl, rfl, rfl⟩)
  | aluHl op => rw [exec_aluHl]; exact .inl (Result.goes_cpu s 2 ⟨rfl, rfl, rfl, rfl, rfl⟩)
  | aluImm op v => rw [exec_aluImm]; exact .inl (Result.goes_cpu s 2 ⟨rfl, rfl, rfl, rfl, rfl⟩)
  | incReg r => rw [exec_incReg]; exact .inl (Result.goes_cpu s 1 (Cpu.Quiet.setFlags (.setReg _ r _) _))
  | decReg r => rw [exec_decReg]; exact .inl (Result.goes_cpu s 1 (Cpu.Quiet.setFlags (.setReg _ r _) _))
  | incAtHl =>
    rw [exec_incAtHl]
    simp only [incHl, State.writeHl, State.setFlags, State.cpu_busWrite]
    exact .inl (Result.goes_write s _ _ 3 ⟨rfl, rfl, rfl, rfl, rfl⟩)
  | decAtHl =>
    rw [exec_decAtHl]
    simp only [decHl, State.writeHl, State.setFlags, State.cpu_busWrite]
    exact .inl (Result.goes_write s _ _ 3 ⟨rfl, rfl, rfl, rfl, rfl⟩)
  | daa => exact .inl (Result.goes_cpu s 1 ⟨rfl, rfl, rfl, rfl, rfl⟩)
  | cpl => exact .inl (Result.goes_cpu s 1 ⟨rfl, rfl, rfl, rfl, rfl⟩)
  | scf => exact .inl (Result.goes_cpu s 1 ⟨rfl, rfl, rfl, rfl, rfl⟩)
  | ccf => exact .inl (Result.goes_cpu s 1 ⟨rfl, rfl, rfl, rfl, rfl⟩)
  | addHl p => rw [exec_addHl]; exact .inl (Result.goes_cpu s 2 (Cpu.Quiet.setFlags (.setPair _ .hl _) _))
  | incPair p => rw [exec_incPair]; exact .inl (Result.goes_cpu s 2 (.setPair _ _ _))
  | decPair p => rw [exec_decPair]; exact .inl (Result.goes_cpu s 2 (.setPair _ _ _))
  | rlca => exact .inl (Result.goes_cpu s 1 ⟨rfl, rfl, rfl, rfl, rfl⟩)
  | rrca => exact .inl (Result.goes_cpu s 1 ⟨rfl, rfl, rfl, rfl, rfl⟩)
  | rla => exact .inl (Result.goes_cpu s 1 ⟨rfl, rfl, rfl, rfl, rfl⟩)
  | rra => exact .inl (Result.goes_cpu s 1 ⟨rfl, rfl, rfl, rfl, rfl⟩)
  | rotReg op r => rw [exec_rotReg]; exact .inl (Result.goes_cpu s 2 (Cpu.Quiet.setFlags (.setReg _ r _) _))
  | rotHl op =>
    rw [exec_rotHl]
    simp only [rotHl, State.writeHl, State.setFlags, State.cpu_busWrite]
    exact .inl (Result.goes_write s _ _ 4 ⟨rfl, rfl, rfl, rfl, rfl⟩)
  | bitReg b r => rw [exec_bitReg]; exact .inl (Result.goes_cpu s 2 ⟨rfl, rfl, rfl, rfl, rfl⟩)
  | bitHl b => rw [exec_bitHl]; exact .inl (Result.goes_cpu s 3 ⟨rfl, rfl, rfl, rfl, rfl⟩)
  | resReg b r => rw [exec_resReg]; exact .inl (Result.goes_cpu s 2 (.setReg _ r _))
  | resHl b => rw [exec_resHl]; exact .inl (Result.goes_store s _ _ 4)
  | setReg b r => rw [exec_setReg]; exact .inl (Result.goes_cpu s 2 (.setReg _ r _))
  | setHl b => rw [exec_setHl]; exact .inl (Result.goes_store s _ _ 4)
  | jpA16 a => exact .inl (Result.goes_cpu s 4 ⟨rfl, rfl, rfl, rfl, rfl⟩)
  | jpHl => exact .inl (Result.goes_cpu s 1 ⟨rfl, rfl, rfl, rfl, rfl⟩)
  | jpIf cc a =>
    rw [exec_jpIf]
    exact .inl (Result.goes_ite (Result.goes_cpu s 4 ⟨rfl, rfl, rfl, rfl, rfl⟩) (goes_nop s 3))
  | jrE8 e => exact .inl (Result.goes_cpu s 3 ⟨rfl, rfl, rfl, rfl, rfl⟩)
  | jrIf cc e =>
    rw [exec_jrIf]
    exact .inl (Result.goes_ite (Result.goes_cpu s 3 ⟨rfl, rfl, rfl, rfl, rfl⟩) (goes_nop s 2))
  | callA16 a => exact .inl (goes_call s a 6)
  | callIf cc a => rw [exec_callIf]; exact .inl (Result.goes_ite (goes_call s a 6) (goes_nop s 3))
  | rst y => rw [exec_rst]; exact .inl (goes_call s _ 4)
  | ret => exact .inl (Result.goes_cpu s 4 ⟨rfl, rfl, rfl, rfl, rfl⟩)
  | retIf cc =>
    rw [exec_retIf]
    exact .inl (Result.goes_ite (Result.goes_cpu s 5 ⟨rfl, rfl, rfl, rfl, rfl⟩) (goes_nop s 2))
  | reti => exact .inl (goes_reti s)
  | nop => exact .inl (goes_nop s 1)
  | halt => exact .inl (goes_halt s)
  | di => exact .inl (goes_di s)
  | ei => exact .inl (goes_ei s)
  | illegal i op h => rw [exec_illegal i op h]; exact .inl (goes_illegal op s)

/-! ### A step -/

theorem Result.andThen_next {r : Result} {f : State → State} {t : State} (h : Result.andThen r f = .next t) :
    ∃ v, r = .next v ∧ t = f v := by
  cases r with
  | next v => exact ⟨v, rfl, by injection h with h; exact h.symm⟩
  | fault e => cases h
  | refused e => cases h

/-- The three ways a step goes on: a dispatch, an idle step, or an instruction; then the devices tick. -/
theorem step_next {s t : State} (h : step s = .next t) :
    s.cpu.fatal = false ∧
      ∃ u v, u = s.hostTurn.delayedEnable ∧ t = v.tickDevices ∧
        ((u.dispatches = true ∧
            v = { u.wake.takeInterrupt (lowestPending u.ic.pending) with cycles := some 20 }) ∨
          (u.dispatches = false ∧ u.wake.cpu.halted = true ∧ v = { u.wake with cycles := some 4 }) ∨
          (u.dispatches = false ∧ u.wake.cpu.halted = false ∧
            exec u.wake.fetchedInstr (u.wake.handlerStart s.hostTurn) = .next v ∧
            ExecEffect (u.wake.handlerStart s.hostTurn) v)) := by
  unfold step at h
  cases hf : s.cpu.fatal with
  | true => rw [hf] at h; cases h
  | false =>
    rw [hf] at h
    obtain ⟨v, hv, ht⟩ := Result.andThen_next (r := s.hostTurn.cpuStep) h
    refine ⟨rfl, _, v, rfl, ht, ?_⟩
    unfold State.cpuStep State.serve at hv
    generalize s.hostTurn.delayedEnable = u at hv ⊢
    cases hd : u.dispatches with
    | true =>
      rw [hd] at hv
      injection hv with hv
      exact .inl ⟨rfl, hv.symm⟩
    | false =>
      rw [hd] at hv
      cases hh : u.wake.cpu.halted with
      | true =>
        rw [hh] at hv
        injection hv with hv
        exact .inr (.inl ⟨rfl, rfl, hv.symm⟩)
      | false =>
        rw [hh] at hv
        have hv' : exec u.wake.fetchedInstr (u.wake.handlerStart s.hostTurn) = .next v := hv
        refine .inr (.inr ⟨rfl, rfl, hv', ?_⟩)
        rcases exec_effect u.wake.fetchedInstr (u.wake.handlerStart s.hostTurn) with ⟨w, hw, he⟩ | ⟨hr, -⟩
        · rw [hw] at hv'
          injection hv' with hv'
          rwa [← hv']
        · rw [hr] at hv'
          cases hv'

/-- A step that does not go on. -/
theorem step_stops {s : State} (h : ∀ t, step s ≠ .next t) :
    (s.cpu.fatal = true ∧ step s = .fault .fatalStuck) ∨
      (s.cpu.fatal = false ∧ step s = .refused .stopNotSpecified ∧ s.hostTurn.delayedEnable.env.stop = .refuse) := by
  unfold step at h ⊢
  cases hf : s.cpu.fatal with
  | true => exact .inl ⟨rfl, rfl⟩
  | false =>
    rw [hf] at h
    right
    refine ⟨rfl, ?_⟩
    show s.hostTurn.schedulerStep = _ ∧ _
    replace h : ∀ t, s.hostTurn.schedulerStep ≠ .next t := h
    unfold State.schedulerStep State.cpuStep State.serve at h ⊢
    generalize s.hostTurn.delayedEnable = u at h ⊢
    cases hd : u.dispatches with
    | true => rw [hd] at h; exact absurd rfl (h _)
    | false =>
      rw [hd] at h
      cases hh : u.wake.cpu.halted with
      | true => rw [hh] at h; exact absurd rfl (h _)
      | false =>
        rw [hh] at h
        replace h : ∀ t, Result.andThen (u.wake.fetchExecute s.hostTurn) State.tickDevices ≠ .next t := h
        show Result.andThen (u.wake.fetchExecute s.hostTurn) State.tickDevices = _ ∧ _
        unfold State.fetchExecute at h ⊢
        rcases exec_effect u.wake.fetchedInstr (u.wake.handlerStart s.hostTurn) with ⟨w, hw, -⟩ | ⟨hr, hs⟩
        · rw [hw] at h
          exact absurd rfl (h _)
        · rw [hr]
          refine ⟨rfl, ?_⟩
          have hw : (u.wake.handlerStart s.hostTurn).env = u.env := by
            rw [State.handlerStart_eq]
            unfold State.wake
            split <;> rfl
          rw [← hw]
          exact hs

/-! ### What every step keeps -/

theorem State.delayedEnable_eq (s : State) : s.delayedEnable = { s with cpu := s.delayedEnable.cpu } := by
  unfold State.delayedEnable
  split <;> rfl

theorem State.wake_eq (s : State) : s.wake = { s with cpu := s.wake.cpu } := by
  unfold State.wake
  split <;> rfl

/-- The host's turn touches IF and the host's own inputs only. -/
theorem State.hostTurn_frame (s : State) :
    s.hostTurn.cpu = s.cpu ∧ s.hostTurn.timer = s.timer ∧ s.hostTurn.ppu = s.ppu ∧ s.hostTurn.bus = s.bus ∧
      s.hostTurn.cart = s.cart ∧ s.hostTurn.env.bootImage = s.env.bootImage ∧ s.hostTurn.env.stop = s.env.stop ∧
      s.env.rtcNow ≤ s.hostTurn.env.rtcNow := by
  unfold State.hostTurn
  split
  · exact ⟨rfl, rfl, rfl, rfl, rfl, rfl, rfl, le_rfl⟩
  · exact ⟨rfl, rfl, rfl, rfl, rfl, rfl, rfl, Nat.le_add_right _ _⟩

/-- A property that does not depend on the CPU, IF and IE or the cycle count, and that a bus write, the host's turn and the
devices' tick keep, every step keeps. -/
theorem step_keeps {P : State → Prop} (hcpu : ∀ (s : State) (k : Cpu), P s → P { s with cpu := k })
    (hcycles : ∀ (s : State) (n : Option Nat), P s → P { s with cycles := n })
    (hic : ∀ (s : State) (k : Interrupts), P s → P { s with ic := k }) (hwrite : ∀ s a v, P s → P (s.busWrite a v))
    (hhost : ∀ s : State, P s → P s.hostTurn) (htick : ∀ s : State, P s → P s.tickDevices) {s t : State} (hs : P s)
    (h : step s = .next t) : P t := by
  obtain ⟨-, u, v, rfl, rfl, hv⟩ := step_next h
  apply htick
  have hu : P s.hostTurn.delayedEnable.wake := by
    rw [State.wake_eq]
    apply hcpu
    rw [State.delayedEnable_eq]
    apply hcpu
    exact hhost s hs
  rcases hv with ⟨-, rfl⟩ | ⟨-, -, rfl⟩ | ⟨-, -, -, he⟩
  · apply hcycles
    show P { State.push16 _ _ with cpu := _, ic := _ }
    rw [State.push16_eq]
    exact hic _ _ (hcpu _ _ (State.busWrites_induct hwrite hu _))
  · exact hcycles _ _ hu
  · obtain ⟨l, hl⟩ := he.outside
    rw [hl]
    exact hcycles { State.busWrites _ l with cpu := v.cpu } v.cycles
      (hcpu _ v.cpu (State.busWrites_induct hwrite (State.handlerStart_eq _ _ ▸ hcpu s.hostTurn.delayedEnable.wake _ hu) l))

end Sys2Proof.Machine
end

