-- ==== Sys2Proof/Tests/Slice0.lean ====
section
/-!
SUPPORT. Tests/Slice0.lean: the WellFormed smoke; the decoding of every constructor, from words written out by the field
rules of 30_encoding.md R165, R170, R171; one small step for most instructions, its values from 95_test_vectors.md part 2;
a few steps of the devices, from part 3; and a witness for the hypotheses of each statement.
-/

namespace Sys2Proof.Tests

open Sys2Proof Sys2Proof.Machine

/-! ### WellFormed -/

theorem test_wellFormed_refuses_invalid :
    [Instr.illegalD3, .illegalDB, .illegalDD, .illegalE3, .illegalE4, .illegalEB, .illegalEC, .illegalED, .illegalF4,
      .illegalFC, .illegalFD].all (fun i => !i.wellFormed) = true := by decide

theorem test_wellFormed_accepts : [Instr.nop, .halt, .stop 0x00, .ldAD8 0xFF, .set7A].all Instr.wellFormed = true := by decide

/-! ### Decoding -/

/-- The instructions of a list of words, each of `nbits` bits, the first byte lowest. -/
def words (nbits : Nat) (l : List Nat) : Option (List Instr) := l.mapM (decodeTableWord nbits)

/-- A word the table gives no operand bits: its operand bytes are 0. -/
theorem test_decode_short_words :
    words 8 [0x01, 0x3E, 0x10] = some [.ldBcD16 0x0000, .ldAD8 0x00, .stop 0x00] := by decide

/-- A stream that ends inside an instruction is refused. -/
theorem test_decode_refuses_short_stream :
    ([decode [], decode [0xCB], decode [0x3E], decode [0x01, 0x34]].all fun r =>
      match r with
      | .ok _ => false
      | .error _ => true) = true := by decide

theorem test_decode_op_0 :
    words 8 [
      0x00, 0x02, 0x03, 0x04, 0x05, 0x07, 0x09, 0x0A, 0x0B, 0x0C, 0x0D, 0x0F] = some [
      .nop, .ldAtBcA, .incBc, .incB, .decB, .rlca, .addHlBc, .ldAAtBc, .decBc, .incC, .decC, .rrca] := by decide

theorem test_decode_byte_0 :
    words 16 [
      0x9606, 0x9E0E] = some [
      .ldBD8 0x96, .ldCD8 0x9E] := by decide

theorem test_decode_word_0 :
    words 24 [
      0xA15C01, 0xA85C08] = some [
      .ldBcD16 0xA15C, .ldAtA16Sp 0xA85C] := by decide

theorem test_decode_op_1 :
    words 8 [
      0x12, 0x13, 0x14, 0x15, 0x17, 0x19, 0x1A, 0x1B, 0x1C, 0x1D, 0x1F] = some [
      .ldAtDeA, .incDe, .incD, .decD, .rla, .addHlDe, .ldAAtDe, .decDe, .incE, .decE, .rra] := by decide

theorem test_decode_byte_1 :
    words 16 [
      0x9010, 0x9616, 0x9818, 0x9E1E] = some [
      .stop 0x90, .ldDD8 0x96, .jrE8 0x98, .ldED8 0x9E] := by decide

theorem test_decode_word_1 :
    words 24 [
      0xA15C11] = some [
      .ldDeD16 0xA15C] := by decide

theorem test_decode_op_2 :
    words 8 [
      0x22, 0x23, 0x24, 0x25, 0x27, 0x29, 0x2A, 0x2B, 0x2C, 0x2D, 0x2F] = some [
      .ldAtHlIncA, .incHl, .incH, .decH, .daa, .addHlHl, .ldAAtHlInc, .decHl, .incL, .decL, .cpl] := by decide

theorem test_decode_byte_2 :
    words 16 [
      0x9020, 0x9626, 0x9828, 0x9E2E] = some [
      .jrNzE8 0x90, .ldHD8 0x96, .jrZE8 0x98, .ldLD8 0x9E] := by decide

theorem test_decode_word_2 :
    words 24 [
      0xA15C21] = some [
      .ldHlD16 0xA15C] := by decide

theorem test_decode_op_3 :
    words 8 [
      0x32, 0x33, 0x34, 0x35, 0x37, 0x39, 0x3A, 0x3B, 0x3C, 0x3D, 0x3F] = some [
      .ldAtHlDecA, .incSp, .incAtHl, .decAtHl, .scf, .addHlSp, .ldAAtHlDec, .decSp, .incA, .decA, .ccf] := by decide

theorem test_decode_byte_3 :
    words 16 [
      0x9030, 0x9636, 0x9838, 0x9E3E] = some [
      .jrNcE8 0x90, .ldAtHlD8 0x96, .jrCE8 0x98, .ldAD8 0x9E] := by decide

theorem test_decode_word_3 :
    words 24 [
      0xA15C31] = some [
      .ldSpD16 0xA15C] := by decide

theorem test_decode_op_4 :
    words 8 [
      0x40, 0x41, 0x42, 0x43, 0x44, 0x45, 0x46, 0x47, 0x48, 0x49, 0x4A, 0x4B, 0x4C, 0x4D, 0x4E, 0x4F] = some [
      .ldBB, .ldBC, .ldBD, .ldBE, .ldBH, .ldBL, .ldBAtHl, .ldBA, .ldCB, .ldCC, .ldCD, .ldCE, .ldCH, .ldCL, .ldCAtHl,
      .ldCA] := by decide

theorem test_decode_op_5 :
    words 8 [
      0x50, 0x51, 0x52, 0x53, 0x54, 0x55, 0x56, 0x57, 0x58, 0x59, 0x5A, 0x5B, 0x5C, 0x5D, 0x5E, 0x5F] = some [
      .ldDB, .ldDC, .ldDD, .ldDE, .ldDH, .ldDL, .ldDAtHl, .ldDA, .ldEB, .ldEC, .ldED, .ldEE, .ldEH, .ldEL, .ldEAtHl,
      .ldEA] := by decide

theorem test_decode_op_6 :
    words 8 [
      0x60, 0x61, 0x62, 0x63, 0x64, 0x65, 0x66, 0x67, 0x68, 0x69, 0x6A, 0x6B, 0x6C, 0x6D, 0x6E, 0x6F] = some [
      .ldHB, .ldHC, .ldHD, .ldHE, .ldHH, .ldHL, .ldHAtHl, .ldHA, .ldLB, .ldLC, .ldLD, .ldLE, .ldLH, .ldLL, .ldLAtHl,
      .ldLA] := by decide

theorem test_decode_op_7 :
    words 8 [
      0x70, 0x71, 0x72, 0x73, 0x74, 0x75, 0x76, 0x77, 0x78, 0x79, 0x7A, 0x7B, 0x7C, 0x7D, 0x7E, 0x7F] = some [
      .ldAtHlB, .ldAtHlC, .ldAtHlD, .ldAtHlE, .ldAtHlH, .ldAtHlL, .halt, .ldAtHlA, .ldAB, .ldAC, .ldAD, .ldAE, .ldAH,
      .ldAL, .ldAAtHl, .ldAA] := by decide

theorem test_decode_op_8 :
    words 8 [
      0x80, 0x81, 0x82, 0x83, 0x84, 0x85, 0x86, 0x87, 0x88, 0x89, 0x8A, 0x8B, 0x8C, 0x8D, 0x8E, 0x8F] = some [
      .addAB, .addAC, .addAD, .addAE, .addAH, .addAL, .addAAtHl, .addAA, .adcAB, .adcAC, .adcAD, .adcAE, .adcAH,
      .adcAL, .adcAAtHl, .adcAA] := by decide

theorem test_decode_op_9 :
    words 8 [
      0x90, 0x91, 0x92, 0x93, 0x94, 0x95, 0x96, 0x97, 0x98, 0x99, 0x9A, 0x9B, 0x9C, 0x9D, 0x9E, 0x9F] = some [
      .subB, .subC, .subD, .subE, .subH, .subL, .subAtHl, .subA, .sbcAB, .sbcAC, .sbcAD, .sbcAE, .sbcAH, .sbcAL,
      .sbcAAtHl, .sbcAA] := by decide

theorem test_decode_op_A :
    words 8 [
      0xA0, 0xA1, 0xA2, 0xA3, 0xA4, 0xA5, 0xA6, 0xA7, 0xA8, 0xA9, 0xAA, 0xAB, 0xAC, 0xAD, 0xAE, 0xAF] = some [
      .andB, .andC, .andD, .andE, .andH, .andL, .andAtHl, .andA, .xorB, .xorC, .xorD, .xorE, .xorH, .xorL, .xorAtHl,
      .xorA] := by decide

theorem test_decode_op_B :
    words 8 [
      0xB0, 0xB1, 0xB2, 0xB3, 0xB4, 0xB5, 0xB6, 0xB7, 0xB8, 0xB9, 0xBA, 0xBB, 0xBC, 0xBD, 0xBE, 0xBF] = some [
      .orB, .orC, .orD, .orE, .orH, .orL, .orAtHl, .orA, .cpB, .cpC, .cpD, .cpE, .cpH, .cpL, .cpAtHl, .cpA] := by decide

theorem test_decode_op_C :
    words 8 [
      0xC0, 0xC1, 0xC5, 0xC7, 0xC8, 0xC9, 0xCF] = some [
      .retNz, .popBc, .pushBc, .rst00, .retZ, .ret, .rst08] := by decide

theorem test_decode_byte_C :
    words 16 [
      0x96C6, 0x9ECE] = some [
      .addAD8 0x96, .adcAD8 0x9E] := by decide

theorem test_decode_word_C :
    words 24 [
      0xA25CC2, 0xA35CC3, 0xA45CC4, 0xAA5CCA, 0xAC5CCC, 0xAD5CCD] = some [
      .jpNzA16 0xA25C, .jpA16 0xA35C, .callNzA16 0xA45C, .jpZA16 0xAA5C, .callZA16 0xAC5C, .callA16 0xAD5C] := by decide

theorem test_decode_op_D :
    words 8 [
      0xD0, 0xD1, 0xD3, 0xD5, 0xD7, 0xD8, 0xD9, 0xDB, 0xDD, 0xDF] = some [
      .retNc, .popDe, .illegalD3, .pushDe, .rst10, .retC, .reti, .illegalDB, .illegalDD, .rst18] := by decide

theorem test_decode_byte_D :
    words 16 [
      0x96D6, 0x9EDE] = some [
      .subD8 0x96, .sbcAD8 0x9E] := by decide

theorem test_decode_word_D :
    words 24 [
      0xA25CD2, 0xA45CD4, 0xAA5CDA, 0xAC5CDC] = some [
      .jpNcA16 0xA25C, .callNcA16 0xA45C, .jpCA16 0xAA5C, .callCA16 0xAC5C] := by decide

theorem test_decode_op_E :
    words 8 [
      0xE1, 0xE2, 0xE3, 0xE4, 0xE5, 0xE7, 0xE9, 0xEB, 0xEC, 0xED, 0xEF] = some [
      .popHl, .ldhAtCA, .illegalE3, .illegalE4, .pushHl, .rst20, .jpHl, .illegalEB, .illegalEC, .illegalED, .rst28] := by decide

theorem test_decode_byte_E :
    words 16 [
      0x90E0, 0x96E6, 0x98E8, 0x9EEE] = some [
      .ldhAtA8A 0x90, .andD8 0x96, .addSpE8 0x98, .xorD8 0x9E] := by decide

theorem test_decode_word_E :
    words 24 [
      0xAA5CEA] = some [
      .ldAtA16A 0xAA5C] := by decide

theorem test_decode_op_F :
    words 8 [
      0xF1, 0xF2, 0xF3, 0xF4, 0xF5, 0xF7, 0xF9, 0xFB, 0xFC, 0xFD, 0xFF] = some [
      .popAf, .ldhAAtC, .di, .illegalF4, .pushAf, .rst30, .ldSpHl, .ei, .illegalFC, .illegalFD, .rst38] := by decide

theorem test_decode_byte_F :
    words 16 [
      0x90F0, 0x96F6, 0x98F8, 0x9EFE] = some [
      .ldhAAtA8 0x90, .orD8 0x96, .ldHlSpE8 0x98, .cpD8 0x9E] := by decide

theorem test_decode_word_F :
    words 24 [
      0xAA5CFA] = some [
      .ldAAtA16 0xAA5C] := by decide

theorem test_decode_cb_0 :
    words 16 [
      0x00CB, 0x01CB, 0x02CB, 0x03CB, 0x04CB, 0x05CB, 0x06CB, 0x07CB, 0x08CB, 0x09CB, 0x0ACB, 0x0BCB, 0x0CCB, 0x0DCB,
      0x0ECB, 0x0FCB] = some [
      .rlcB, .rlcC, .rlcD, .rlcE, .rlcH, .rlcL, .rlcAtHl, .rlcA, .rrcB, .rrcC, .rrcD, .rrcE, .rrcH, .rrcL, .rrcAtHl,
      .rrcA] := by decide

theorem test_decode_cb_1 :
    words 16 [
      0x10CB, 0x11CB, 0x12CB, 0x13CB, 0x14CB, 0x15CB, 0x16CB, 0x17CB, 0x18CB, 0x19CB, 0x1ACB, 0x1BCB, 0x1CCB, 0x1DCB,
      0x1ECB, 0x1FCB] = some [
      .rlB, .rlC, .rlD, .rlE, .rlH, .rlL, .rlAtHl, .rlA, .rrB, .rrC, .rrD, .rrE, .rrH, .rrL, .rrAtHl, .rrA] := by decide

theorem test_decode_cb_2 :
    words 16 [
      0x20CB, 0x21CB, 0x22CB, 0x23CB, 0x24CB, 0x25CB, 0x26CB, 0x27CB, 0x28CB, 0x29CB, 0x2ACB, 0x2BCB, 0x2CCB, 0x2DCB,
      0x2ECB, 0x2FCB] = some [
      .slaB, .slaC, .slaD, .slaE, .slaH, .slaL, .slaAtHl, .slaA, .sraB, .sraC, .sraD, .sraE, .sraH, .sraL, .sraAtHl,
      .sraA] := by decide

theorem test_decode_cb_3 :
    words 16 [
      0x30CB, 0x31CB, 0x32CB, 0x33CB, 0x34CB, 0x35CB, 0x36CB, 0x37CB, 0x38CB, 0x39CB, 0x3ACB, 0x3BCB, 0x3CCB, 0x3DCB,
      0x3ECB, 0x3FCB] = some [
      .swapB, .swapC, .swapD, .swapE, .swapH, .swapL, .swapAtHl, .swapA, .srlB, .srlC, .srlD, .srlE, .srlH, .srlL,
      .srlAtHl, .srlA] := by decide

theorem test_decode_cb_4 :
    words 16 [
      0x40CB, 0x41CB, 0x42CB, 0x43CB, 0x44CB, 0x45CB, 0x46CB, 0x47CB, 0x48CB, 0x49CB, 0x4ACB, 0x4BCB, 0x4CCB, 0x4DCB,
      0x4ECB, 0x4FCB] = some [
      .bit0B, .bit0C, .bit0D, .bit0E, .bit0H, .bit0L, .bit0AtHl, .bit0A, .bit1B, .bit1C, .bit1D, .bit1E, .bit1H,
      .bit1L, .bit1AtHl, .bit1A] := by decide

theorem test_decode_cb_5 :
    words 16 [
      0x50CB, 0x51CB, 0x52CB, 0x53CB, 0x54CB, 0x55CB, 0x56CB, 0x57CB, 0x58CB, 0x59CB, 0x5ACB, 0x5BCB, 0x5CCB, 0x5DCB,
      0x5ECB, 0x5FCB] = some [
      .bit2B, .bit2C, .bit2D, .bit2E, .bit2H, .bit2L, .bit2AtHl, .bit2A, .bit3B, .bit3C, .bit3D, .bit3E, .bit3H,
      .bit3L, .bit3AtHl, .bit3A] := by decide

theorem test_decode_cb_6 :
    words 16 [
      0x60CB, 0x61CB, 0x62CB, 0x63CB, 0x64CB, 0x65CB, 0x66CB, 0x67CB, 0x68CB, 0x69CB, 0x6ACB, 0x6BCB, 0x6CCB, 0x6DCB,
      0x6ECB, 0x6FCB] = some [
      .bit4B, .bit4C, .bit4D, .bit4E, .bit4H, .bit4L, .bit4AtHl, .bit4A, .bit5B, .bit5C, .bit5D, .bit5E, .bit5H,
      .bit5L, .bit5AtHl, .bit5A] := by decide

theorem test_decode_cb_7 :
    words 16 [
      0x70CB, 0x71CB, 0x72CB, 0x73CB, 0x74CB, 0x75CB, 0x76CB, 0x77CB, 0x78CB, 0x79CB, 0x7ACB, 0x7BCB, 0x7CCB, 0x7DCB,
      0x7ECB, 0x7FCB] = some [
      .bit6B, .bit6C, .bit6D, .bit6E, .bit6H, .bit6L, .bit6AtHl, .bit6A, .bit7B, .bit7C, .bit7D, .bit7E, .bit7H,
      .bit7L, .bit7AtHl, .bit7A] := by decide

theorem test_decode_cb_8 :
    words 16 [
      0x80CB, 0x81CB, 0x82CB, 0x83CB, 0x84CB, 0x85CB, 0x86CB, 0x87CB, 0x88CB, 0x89CB, 0x8ACB, 0x8BCB, 0x8CCB, 0x8DCB,
      0x8ECB, 0x8FCB] = some [
      .res0B, .res0C, .res0D, .res0E, .res0H, .res0L, .res0AtHl, .res0A, .res1B, .res1C, .res1D, .res1E, .res1H,
      .res1L, .res1AtHl, .res1A] := by decide

theorem test_decode_cb_9 :
    words 16 [
      0x90CB, 0x91CB, 0x92CB, 0x93CB, 0x94CB, 0x95CB, 0x96CB, 0x97CB, 0x98CB, 0x99CB, 0x9ACB, 0x9BCB, 0x9CCB, 0x9DCB,
      0x9ECB, 0x9FCB] = some [
      .res2B, .res2C, .res2D, .res2E, .res2H, .res2L, .res2AtHl, .res2A, .res3B, .res3C, .res3D, .res3E, .res3H,
      .res3L, .res3AtHl, .res3A] := by decide

theorem test_decode_cb_A :
    words 16 [
      0xA0CB, 0xA1CB, 0xA2CB, 0xA3CB, 0xA4CB, 0xA5CB, 0xA6CB, 0xA7CB, 0xA8CB, 0xA9CB, 0xAACB, 0xABCB, 0xACCB, 0xADCB,
      0xAECB, 0xAFCB] = some [
      .res4B, .res4C, .res4D, .res4E, .res4H, .res4L, .res4AtHl, .res4A, .res5B, .res5C, .res5D, .res5E, .res5H,
      .res5L, .res5AtHl, .res5A] := by decide

theorem test_decode_cb_B :
    words 16 [
      0xB0CB, 0xB1CB, 0xB2CB, 0xB3CB, 0xB4CB, 0xB5CB, 0xB6CB, 0xB7CB, 0xB8CB, 0xB9CB, 0xBACB, 0xBBCB, 0xBCCB, 0xBDCB,
      0xBECB, 0xBFCB] = some [
      .res6B, .res6C, .res6D, .res6E, .res6H, .res6L, .res6AtHl, .res6A, .res7B, .res7C, .res7D, .res7E, .res7H,
      .res7L, .res7AtHl, .res7A] := by decide

theorem test_decode_cb_C :
    words 16 [
      0xC0CB, 0xC1CB, 0xC2CB, 0xC3CB, 0xC4CB, 0xC5CB, 0xC6CB, 0xC7CB, 0xC8CB, 0xC9CB, 0xCACB, 0xCBCB, 0xCCCB, 0xCDCB,
      0xCECB, 0xCFCB] = some [
      .set0B, .set0C, .set0D, .set0E, .set0H, .set0L, .set0AtHl, .set0A, .set1B, .set1C, .set1D, .set1E, .set1H,
      .set1L, .set1AtHl, .set1A] := by decide

theorem test_decode_cb_D :
    words 16 [
      0xD0CB, 0xD1CB, 0xD2CB, 0xD3CB, 0xD4CB, 0xD5CB, 0xD6CB, 0xD7CB, 0xD8CB, 0xD9CB, 0xDACB, 0xDBCB, 0xDCCB, 0xDDCB,
      0xDECB, 0xDFCB] = some [
      .set2B, .set2C, .set2D, .set2E, .set2H, .set2L, .set2AtHl, .set2A, .set3B, .set3C, .set3D, .set3E, .set3H,
      .set3L, .set3AtHl, .set3A] := by decide

theorem test_decode_cb_E :
    words 16 [
      0xE0CB, 0xE1CB, 0xE2CB, 0xE3CB, 0xE4CB, 0xE5CB, 0xE6CB, 0xE7CB, 0xE8CB, 0xE9CB, 0xEACB, 0xEBCB, 0xECCB, 0xEDCB,
      0xEECB, 0xEFCB] = some [
      .set4B, .set4C, .set4D, .set4E, .set4H, .set4L, .set4AtHl, .set4A, .set5B, .set5C, .set5D, .set5E, .set5H,
      .set5L, .set5AtHl, .set5A] := by decide

theorem test_decode_cb_F :
    words 16 [
      0xF0CB, 0xF1CB, 0xF2CB, 0xF3CB, 0xF4CB, 0xF5CB, 0xF6CB, 0xF7CB, 0xF8CB, 0xF9CB, 0xFACB, 0xFBCB, 0xFCCB, 0xFDCB,
      0xFECB, 0xFFCB] = some [
      .set6B, .set6C, .set6D, .set6E, .set6H, .set6L, .set6AtHl, .set6A, .set7B, .set7C, .set7D, .set7E, .set7H,
      .set7L, .set7AtHl, .set7A] := by decide

/-! ### One step (95_test_vectors.md part 2) -/

/-- Every register zero, SP in work RAM. -/
def zeroCpu : Cpu := { bootCpu with sp := 0xDFF0 }

/-- The machine with code at `a`, PC there, the other registers and some bytes of memory given. -/
def program (a : Word) (code : List Byte) (k : Cpu) (cells : List (Word × Byte)) : State :=
  cells.foldl (fun t c => t.placeByte c.1 c.2)
    (State.placeBytes { State.reset with cpu := { k with pc := a } } a code)

/-- What holds of the next state; false when there is none. -/
def after (r : Result) (p : State → Bool) : Bool :=
  match r with
  | .next t => p t
  | .fault _ => false
  | .refused _ => false

theorem test_ldBC_1 :
    after (program 0x0100 [0x41] { zeroCpu with c := 0x5A, f := Flags.ofByte 0xF0 } []).cpuStep
      (fun t => t.cpu.b == 0x5A && t.cpu.f.toByte == 0xF0 && t.cpu.pc == 0x0101 && t.cycles == some 4) = true := by decide

theorem test_ldAA_1 :
    after (program 0x0100 [0x7F] { zeroCpu with a := 0x33 } []).cpuStep
      (fun t => t.cpu.a == 0x33 && t.cpu.pc == 0x0101 && t.cycles == some 4) = true := by decide

theorem test_ldED8_1 :
    after (program 0x0100 [0x1E, 0xAB] zeroCpu []).cpuStep
      (fun t => t.cpu.e == 0xAB && t.cpu.pc == 0x0102 && t.cycles == some 8) = true := by decide

theorem test_ldHAtHl_1 :
    after (program 0x0100 [0x66] { zeroCpu with h := 0xC1, l := 0x23 } [(0xC123, 0x9A)]).cpuStep
      (fun t => t.cpu.h == 0x9A && t.cpu.l == 0x23 && t.cpu.pc == 0x0101 && t.cycles == some 8) = true := by decide

theorem test_ldLAtHl_1 :
    after (program 0x0100 [0x6E] { zeroCpu with h := 0xC1, l := 0x23 } [(0xC123, 0x9A)]).cpuStep
      (fun t => t.cpu.h == 0xC1 && t.cpu.l == 0x9A && t.cycles == some 8) = true := by decide

theorem test_ldAtHlH_1 :
    after (program 0x0100 [0x74] { zeroCpu with h := 0xC1, l := 0x23 } []).cpuStep
      (fun t => t.busRead 0xC123 == 0xC1 && t.cycles == some 8) = true := by decide

theorem test_ldAtHlD8_1 :
    after (program 0x0100 [0x36, 0x42] { zeroCpu with h := 0xC0, l := 0x00 } []).cpuStep
      (fun t => t.busRead 0xC000 == 0x42 && t.cpu.pc == 0x0102 && t.cycles == some 12) = true := by decide

theorem test_ldAAtBc_1 :
    after (program 0x0100 [0x0A] { zeroCpu with b := 0xC0, c := 0x10 } [(0xC010, 0x33)]).cpuStep
      (fun t => t.cpu.a == 0x33 && t.cycles == some 8) = true := by decide

theorem test_ldAAtDe_1 :
    after (program 0x0100 [0x1A] { zeroCpu with d := 0xC0, e := 0x10 } [(0xC010, 0x33)]).cpuStep
      (fun t => t.cpu.a == 0x33 && t.cycles == some 8) = true := by decide

theorem test_ldAtBcA_1 :
    after (program 0x0100 [0x02] { zeroCpu with b := 0xC0, c := 0x20, a := 0x44 } []).cpuStep
      (fun t => t.busRead 0xC020 == 0x44 && t.cycles == some 8) = true := by decide

theorem test_ldAtDeA_1 :
    after (program 0x0100 [0x12] { zeroCpu with d := 0xE0, e := 0x10, a := 0x44 } []).cpuStep
      (fun t => t.busRead 0xC010 == 0x44 && t.busRead 0xE010 == 0x44 && t.cycles == some 8) = true := by decide

theorem test_ldAAtA16_1 :
    after (program 0x0100 [0xFA, 0x34, 0xC2] zeroCpu [(0xC234, 0x99)]).cpuStep
      (fun t => t.cpu.a == 0x99 && t.cpu.pc == 0x0103 && t.cycles == some 16) = true := by decide

theorem test_ldAtA16A_1 :
    after (program 0x0100 [0xEA, 0xA0, 0xFE] { zeroCpu with a := 0x55 } []).cpuStep
      (fun t => t.cycles == some 16) = true := by decide

theorem test_ldhAAtC_1 :
    after ({ program 0x0100 [0xF2] { zeroCpu with c := 0x44 } [] with ppu := { (program 0 [] zeroCpu []).ppu with ly := 91 } }).cpuStep
      (fun t => t.cpu.a == 0x5B && t.cycles == some 8) = true := by decide

theorem test_ldhAtCA_1 :
    after (program 0x0100 [0xE2] { zeroCpu with a := 0x1F, c := 0xFF } []).cpuStep
      (fun t => t.ic.ie == 0x1F && t.cycles == some 8) = true := by decide

theorem test_ldhAAtA8_1 :
    after (program 0x0100 [0xF0, 0x10] zeroCpu []).cpuStep
      (fun t => t.cpu.a == 0xFF && t.cpu.pc == 0x0102 && t.cycles == some 12) = true := by decide

theorem test_ldhAtA8A_1 :
    after (program 0x0100 [0xE0, 0x80] { zeroCpu with a := 0x5A } []).cpuStep
      (fun t => t.busRead 0xFF80 == 0x5A && t.cpu.pc == 0x0102 && t.cycles == some 12) = true := by decide

theorem test_ldAAtHlDec_1 :
    after (program 0x0100 [0x3A] { zeroCpu with h := 0xC1, l := 0x00 } [(0xC100, 0x21)]).cpuStep
      (fun t => t.cpu.a == 0x21 && t.cpu.hl == 0xC0FF && t.cycles == some 8) = true := by decide

theorem test_ldAtHlDecA_1 :
    after (program 0x0100 [0x32] { zeroCpu with h := 0xC0, l := 0x00, a := 0x77 } []).cpuStep
      (fun t => t.busRead 0xC000 == 0x77 && t.cpu.hl == 0xBFFF && t.cycles == some 8) = true := by decide

theorem test_ldAAtHlInc_1 :
    after (program 0x0100 [0x2A] { zeroCpu with h := 0xC0, l := 0xFF } [(0xC0FF, 0x11)]).cpuStep
      (fun t => t.cpu.a == 0x11 && t.cpu.hl == 0xC100 && t.cycles == some 8) = true := by decide

theorem test_ldAtHlIncA_1 :
    after (program 0x0100 [0x22] { zeroCpu with h := 0xDF, l := 0xFF, a := 0x10 } []).cpuStep
      (fun t => t.busRead 0xDFFF == 0x10 && t.cpu.hl == 0xE000 && t.cycles == some 8) = true := by decide

theorem test_ldBcD16_1 :
    after (program 0x0100 [0x01, 0x34, 0x12] zeroCpu []).cpuStep
      (fun t => t.cpu.b == 0x12 && t.cpu.c == 0x34 && t.cpu.pc == 0x0103 && t.cycles == some 12) = true := by decide

theorem test_ldSpD16_1 :
    after (program 0x0100 [0x31, 0xFE, 0xFF] zeroCpu []).cpuStep
      (fun t => t.cpu.sp == 0xFFFE && t.cpu.pc == 0x0103 && t.cycles == some 12) = true := by decide

theorem test_ldAtA16Sp_1 :
    after (program 0x0100 [0x08, 0x00, 0xC1] { zeroCpu with sp := 0xFFF8 } []).cpuStep
      (fun t => t.busRead 0xC100 == 0xF8 && t.busRead 0xC101 == 0xFF && t.cpu.pc == 0x0103 && t.cycles == some 20) = true := by decide

theorem test_ldAtA16Sp_2 :
    after (program 0x0100 [0x08, 0xFF, 0xFF] { zeroCpu with sp := 0x1234 } []).cpuStep
      (fun t => t.ic.ie == 0x34 && t.cycles == some 20) = true := by decide

theorem test_ldSpHl_1 :
    after (program 0x0100 [0xF9] { zeroCpu with h := 0xD0, l := 0x00, f := Flags.ofByte 0xF0 } []).cpuStep
      (fun t => t.cpu.sp == 0xD000 && t.cpu.f.toByte == 0xF0 && t.cycles == some 8) = true := by decide

theorem test_pushBc_1 :
    after (program 0x0100 [0xC5] { zeroCpu with b := 0x12, c := 0x34, sp := 0xD000 } []).cpuStep
      (fun t => t.cpu.sp == 0xCFFE && t.busRead 0xCFFF == 0x12 && t.busRead 0xCFFE == 0x34 && t.cycles == some 16) = true := by decide

theorem test_pushAf_1 :
    after (program 0x0100 [0xF5] { zeroCpu with a := 0x12, f := Flags.ofByte 0xB0, sp := 0xD000 } []).cpuStep
      (fun t => t.cpu.sp == 0xCFFE && t.busRead 0xCFFF == 0x12 && t.busRead 0xCFFE == 0xB0 && t.cycles == some 16) = true := by decide

theorem test_pushHl_1 :
    after (program 0x0100 [0xE5] { zeroCpu with h := 0xAB, l := 0xCD, sp := 0x0001 } []).cpuStep
      (fun t => t.cpu.sp == 0xFFFF && t.ic.ie == 0xCD && t.cycles == some 16) = true := by decide

theorem test_popDe_1 :
    after (program 0x0100 [0xD1] { zeroCpu with sp := 0xCFFE } [(0xCFFE, 0x34), (0xCFFF, 0x12)]).cpuStep
      (fun t => t.cpu.d == 0x12 && t.cpu.e == 0x34 && t.cpu.sp == 0xD000 && t.cycles == some 12) = true := by decide

theorem test_popBc_1 :
    after ({ program 0x0100 [0xC1] { zeroCpu with sp := 0xFFFF } [(0x0000, 0x00)] with ic := { ie := 0x15, iflag := 0 } }).cpuStep
      (fun t => t.cpu.c == 0x15 && t.cpu.b == 0x00 && t.cpu.sp == 0x0001 && t.cycles == some 12) = true := by decide

theorem test_popAf_1 :
    after (program 0x0100 [0xF1] { zeroCpu with sp := 0xCFFE } [(0xCFFE, 0xFF), (0xCFFF, 0x12)]).cpuStep
      (fun t => t.cpu.a == 0x12 && t.cpu.f.toByte == 0xF0 && t.cpu.sp == 0xD000 && t.cycles == some 12) = true := by decide

theorem test_popAf_2 :
    after (program 0x0100 [0xF1] { zeroCpu with sp := 0xCFFE } [(0xCFFE, 0x0F), (0xCFFF, 0x00)]).cpuStep
      (fun t => t.cpu.a == 0x00 && t.cpu.f.toByte == 0x00 && t.cycles == some 12) = true := by decide

theorem test_ldHlSpE8_1 :
    after (program 0x0100 [0xF8, 0x02] { zeroCpu with sp := 0xFFF8, f := Flags.ofByte 0xC0 } []).cpuStep
      (fun t => t.cpu.hl == 0xFFFA && t.cpu.f.toByte == 0x00 && t.cpu.sp == 0xFFF8 && t.cycles == some 12) = true := by decide

theorem test_addAB_1 :
    after (program 0x0100 [0x80] { zeroCpu with a := 0x3A, b := 0xC6, f := Flags.ofByte 0x00 } []).cpuStep
      (fun t => t.cpu.a == 0x00 && t.cpu.f.toByte == 0xB0 && t.cycles == some 4) = true := by decide

theorem test_addAD8_1 :
    after (program 0x0100 [0xC6, 0xC6] { zeroCpu with a := 0x3A, f := Flags.ofByte 0x00 } []).cpuStep
      (fun t => t.cpu.a == 0x00 && t.cpu.f.toByte == 0xB0 && t.cycles == some 8) = true := by decide

theorem test_addAAtHl_1 :
    after (program 0x0100 [0x86] { zeroCpu with a := 0x3A, h := 0xC0, l := 0x00, f := Flags.ofByte 0x00 } [(0xC000, 0xC6)]).cpuStep
      (fun t => t.cpu.a == 0x00 && t.cpu.f.toByte == 0xB0 && t.cycles == some 8) = true := by decide

theorem test_adcAB_1 :
    after (program 0x0100 [0x88] { zeroCpu with a := 0xE1, b := 0x0F, f := Flags.ofByte 0x10 } []).cpuStep
      (fun t => t.cpu.a == 0xF1 && t.cpu.f.toByte == 0x20 && t.cycles == some 4) = true := by decide

theorem test_adcAD8_1 :
    after (program 0x0100 [0xCE, 0x0F] { zeroCpu with a := 0xE1, f := Flags.ofByte 0x10 } []).cpuStep
      (fun t => t.cpu.a == 0xF1 && t.cpu.f.toByte == 0x20 && t.cycles == some 8) = true := by decide

theorem test_adcAAtHl_1 :
    after (program 0x0100 [0x8E] { zeroCpu with a := 0xE1, h := 0xC0, l := 0x00, f := Flags.ofByte 0x10 } [(0xC000, 0x0F)]).cpuStep
      (fun t => t.cpu.a == 0xF1 && t.cpu.f.toByte == 0x20 && t.cycles == some 8) = true := by decide

theorem test_subB_1 :
    after (program 0x0100 [0x90] { zeroCpu with a := 0x3E, b := 0x3E, f := Flags.ofByte 0x00 } []).cpuStep
      (fun t => t.cpu.a == 0x00 && t.cpu.f.toByte == 0xC0 && t.cycles == some 4) = true := by decide

theorem test_subD8_1 :
    after (program 0x0100 [0xD6, 0x3E] { zeroCpu with a := 0x3E, f := Flags.ofByte 0x00 } []).cpuStep
      (fun t => t.cpu.a == 0x00 && t.cpu.f.toByte == 0xC0 && t.cycles == some 8) = true := by decide

theorem test_subAtHl_1 :
    after (program 0x0100 [0x96] { zeroCpu with a := 0x3E, h := 0xC0, l := 0x00, f := Flags.ofByte 0x00 } [(0xC000, 0x3E)]).cpuStep
      (fun t => t.cpu.a == 0x00 && t.cpu.f.toByte == 0xC0 && t.cycles == some 8) = true := by decide

theorem test_sbcAB_1 :
    after (program 0x0100 [0x98] { zeroCpu with a := 0x3B, b := 0x2A, f := Flags.ofByte 0x10 } []).cpuStep
      (fun t => t.cpu.a == 0x10 && t.cpu.f.toByte == 0x40 && t.cycles == some 4) = true := by decide

theorem test_sbcAD8_1 :
    after (program 0x0100 [0xDE, 0x2A] { zeroCpu with a := 0x3B, f := Flags.ofByte 0x10 } []).cpuStep
      (fun t => t.cpu.a == 0x10 && t.cpu.f.toByte == 0x40 && t.cycles == some 8) = true := by decide

theorem test_sbcAAtHl_1 :
    after (program 0x0100 [0x9E] { zeroCpu with a := 0x3B, h := 0xC0, l := 0x00, f := Flags.ofByte 0x10 } [(0xC000, 0x2A)]).cpuStep
      (fun t => t.cpu.a == 0x10 && t.cpu.f.toByte == 0x40 && t.cycles == some 8) = true := by decide

theorem test_sbcAB_2 :
    after (program 0x0100 [0x98] { zeroCpu with a := 0x00, b := 0x00, f := Flags.ofByte 0x10 } []).cpuStep
      (fun t => t.cpu.a == 0xFF && t.cpu.f.toByte == 0x70 && t.cycles == some 4) = true := by decide

theorem test_sbcAD8_2 :
    after (program 0x0100 [0xDE, 0x00] { zeroCpu with a := 0x00, f := Flags.ofByte 0x10 } []).cpuStep
      (fun t => t.cpu.a == 0xFF && t.cpu.f.toByte == 0x70 && t.cycles == some 8) = true := by decide

theorem test_sbcAAtHl_2 :
    after (program 0x0100 [0x9E] { zeroCpu with a := 0x00, h := 0xC0, l := 0x00, f := Flags.ofByte 0x10 } [(0xC000, 0x00)]).cpuStep
      (fun t => t.cpu.a == 0xFF && t.cpu.f.toByte == 0x70 && t.cycles == some 8) = true := by decide

theorem test_cpB_1 :
    after (program 0x0100 [0xB8] { zeroCpu with a := 0x3C, b := 0x2F, f := Flags.ofByte 0x00 } []).cpuStep
      (fun t => t.cpu.a == 0x3C && t.cpu.f.toByte == 0x60 && t.cycles == some 4) = true := by decide

theorem test_cpD8_1 :
    after (program 0x0100 [0xFE, 0x2F] { zeroCpu with a := 0x3C, f := Flags.ofByte 0x00 } []).cpuStep
      (fun t => t.cpu.a == 0x3C && t.cpu.f.toByte == 0x60 && t.cycles == some 8) = true := by decide

theorem test_cpAtHl_1 :
    after (program 0x0100 [0xBE] { zeroCpu with a := 0x3C, h := 0xC0, l := 0x00, f := Flags.ofByte 0x00 } [(0xC000, 0x2F)]).cpuStep
      (fun t => t.cpu.a == 0x3C && t.cpu.f.toByte == 0x60 && t.cycles == some 8) = true := by decide

theorem test_andB_1 :
    after (program 0x0100 [0xA0] { zeroCpu with a := 0x5A, b := 0x3F, f := Flags.ofByte 0x00 } []).cpuStep
      (fun t => t.cpu.a == 0x1A && t.cpu.f.toByte == 0x20 && t.cycles == some 4) = true := by decide

theorem test_andD8_1 :
    after (program 0x0100 [0xE6, 0x3F] { zeroCpu with a := 0x5A, f := Flags.ofByte 0x00 } []).cpuStep
      (fun t => t.cpu.a == 0x1A && t.cpu.f.toByte == 0x20 && t.cycles == some 8) = true := by decide

theorem test_andAtHl_1 :
    after (program 0x0100 [0xA6] { zeroCpu with a := 0x5A, h := 0xC0, l := 0x00, f := Flags.ofByte 0x00 } [(0xC000, 0x3F)]).cpuStep
      (fun t => t.cpu.a == 0x1A && t.cpu.f.toByte == 0x20 && t.cycles == some 8) = true := by decide

theorem test_xorB_1 :
    after (program 0x0100 [0xA8] { zeroCpu with a := 0xFF, b := 0x0F, f := Flags.ofByte 0x00 } []).cpuStep
      (fun t => t.cpu.a == 0xF0 && t.cpu.f.toByte == 0x00 && t.cycles == some 4) = true := by decide

theorem test_xorD8_1 :
    after (program 0x0100 [0xEE, 0x0F] { zeroCpu with a := 0xFF, f := Flags.ofByte 0x00 } []).cpuStep
      (fun t => t.cpu.a == 0xF0 && t.cpu.f.toByte == 0x00 && t.cycles == some 8) = true := by decide

theorem test_xorAtHl_1 :
    after (program 0x0100 [0xAE] { zeroCpu with a := 0xFF, h := 0xC0, l := 0x00, f := Flags.ofByte 0x00 } [(0xC000, 0x0F)]).cpuStep
      (fun t => t.cpu.a == 0xF0 && t.cpu.f.toByte == 0x00 && t.cycles == some 8) = true := by decide

theorem test_orB_1 :
    after (program 0x0100 [0xB0] { zeroCpu with a := 0x5A, b := 0x0F, f := Flags.ofByte 0x00 } []).cpuStep
      (fun t => t.cpu.a == 0x5F && t.cpu.f.toByte == 0x00 && t.cycles == some 4) = true := by decide

theorem test_orD8_1 :
    after (program 0x0100 [0xF6, 0x0F] { zeroCpu with a := 0x5A, f := Flags.ofByte 0x00 } []).cpuStep
      (fun t => t.cpu.a == 0x5F && t.cpu.f.toByte == 0x00 && t.cycles == some 8) = true := by decide

theorem test_orAtHl_1 :
    after (program 0x0100 [0xB6] { zeroCpu with a := 0x5A, h := 0xC0, l := 0x00, f := Flags.ofByte 0x00 } [(0xC000, 0x0F)]).cpuStep
      (fun t => t.cpu.a == 0x5F && t.cpu.f.toByte == 0x00 && t.cycles == some 8) = true := by decide

theorem test_addAA_1 :
    after (program 0x0100 [0x87] { zeroCpu with a := 0x88 } []).cpuStep
      (fun t => t.cpu.a == 0x10 && t.cpu.f.toByte == 0x30 && t.cycles == some 4) = true := by decide

theorem test_adcAA_1 :
    after (program 0x0100 [0x8F] { zeroCpu with a := 0x80, f := Flags.ofByte 0x10 } []).cpuStep
      (fun t => t.cpu.a == 0x01 && t.cpu.f.toByte == 0x10 && t.cycles == some 4) = true := by decide

theorem test_subA_1 :
    after (program 0x0100 [0x97] { zeroCpu with a := 0x88, f := Flags.ofByte 0x10 } []).cpuStep
      (fun t => t.cpu.a == 0x00 && t.cpu.f.toByte == 0xC0 && t.cycles == some 4) = true := by decide

theorem test_sbcAA_1 :
    after (program 0x0100 [0x9F] { zeroCpu with a := 0x88, f := Flags.ofByte 0x10 } []).cpuStep
      (fun t => t.cpu.a == 0xFF && t.cpu.f.toByte == 0x70 && t.cycles == some 4) = true := by decide

theorem test_xorA_1 :
    after (program 0x0100 [0xAF] { zeroCpu with a := 0x5A, f := Flags.ofByte 0xF0 } []).cpuStep
      (fun t => t.cpu.a == 0x00 && t.cpu.f.toByte == 0x80 && t.cycles == some 4) = true := by decide

theorem test_cpA_1 :
    after (program 0x0100 [0xBF] { zeroCpu with a := 0x3C } []).cpuStep
      (fun t => t.cpu.a == 0x3C && t.cpu.f.toByte == 0xC0 && t.cycles == some 4) = true := by decide

theorem test_incB_1 :
    after (program 0x0100 [0x04] { zeroCpu with b := 0x00, f := Flags.ofByte 0x00 } []).cpuStep
      (fun t => t.cpu.b == 0x01 && t.cpu.f.toByte == 0x00 && t.cycles == some 4) = true := by decide

theorem test_incAtHl_1 :
    after (program 0x0100 [0x34] { zeroCpu with h := 0xC0, l := 0x00, f := Flags.ofByte 0x00 } [(0xC000, 0x00)]).cpuStep
      (fun t => t.busRead 0xC000 == 0x01 && t.cpu.f.toByte == 0x00 && t.cycles == some 12) = true := by decide

theorem test_decB_1 :
    after (program 0x0100 [0x05] { zeroCpu with b := 0x00, f := Flags.ofByte 0x00 } []).cpuStep
      (fun t => t.cpu.b == 0xFF && t.cpu.f.toByte == 0x60 && t.cycles == some 4) = true := by decide

theorem test_decAtHl_1 :
    after (program 0x0100 [0x35] { zeroCpu with h := 0xC0, l := 0x00, f := Flags.ofByte 0x00 } [(0xC000, 0x00)]).cpuStep
      (fun t => t.busRead 0xC000 == 0xFF && t.cpu.f.toByte == 0x60 && t.cycles == some 12) = true := by decide

theorem test_daa_1 :
    after (program 0x0100 [0x27] { zeroCpu with a := 0x7D, f := Flags.ofByte 0x00 } []).cpuStep
      (fun t => t.cpu.a == 0x83 && t.cpu.f.toByte == 0x00 && t.cycles == some 4) = true := by decide

theorem test_daa_2 :
    after (program 0x0100 [0x27] { zeroCpu with a := 0x00, f := Flags.ofByte 0x00 } []).cpuStep
      (fun t => t.cpu.a == 0x00 && t.cpu.f.toByte == 0x80 && t.cycles == some 4) = true := by decide

theorem test_cpl_1 :
    after (program 0x0100 [0x2F] { zeroCpu with f := Flags.ofByte 0x00, a := 0x35 } []).cpuStep
      (fun t => t.cpu.f.toByte == 0x60 && t.cpu.a == 0xCA && t.cycles == some 4) = true := by decide

theorem test_scf_1 :
    after (program 0x0100 [0x37] { zeroCpu with f := Flags.ofByte 0x00 } []).cpuStep
      (fun t => t.cpu.f.toByte == 0x10 && t.cycles == some 4) = true := by decide

theorem test_ccf_1 :
    after (program 0x0100 [0x3F] { zeroCpu with f := Flags.ofByte 0x00 } []).cpuStep
      (fun t => t.cpu.f.toByte == 0x10 && t.cycles == some 4) = true := by decide

theorem test_addHlBc_1 :
    after (program 0x0100 [0x09] { zeroCpu with h := 0x8A, l := 0x23, b := 0x06, c := 0x05, f := Flags.ofByte 0xC0 } []).cpuStep
      (fun t => t.cpu.hl == 0x9028 && t.cpu.f.toByte == 0xA0 && t.cycles == some 8) = true := by decide

theorem test_addHlHl_1 :
    after (program 0x0100 [0x29] { zeroCpu with h := 0x8A, l := 0x23, f := Flags.ofByte 0x00 } []).cpuStep
      (fun t => t.cpu.hl == 0x1446 && t.cpu.f.toByte == 0x30 && t.cycles == some 8) = true := by decide

theorem test_addHlSp_1 :
    after (program 0x0100 [0x39] { zeroCpu with h := 0x00, l := 0x01, sp := 0xFFFF, f := Flags.ofByte 0x80 } []).cpuStep
      (fun t => t.cpu.hl == 0x0000 && t.cpu.f.toByte == 0xB0 && t.cpu.sp == 0xFFFF && t.cycles == some 8) = true := by decide

theorem test_incBc_1 :
    after (program 0x0100 [0x03] { zeroCpu with b := 0xFF, c := 0xFF, f := Flags.ofByte 0x00 } []).cpuStep
      (fun t => t.cpu.bc == 0x0000 && t.cpu.f.toByte == 0x00 && t.cycles == some 8) = true := by decide

theorem test_incSp_1 :
    after (program 0x0100 [0x33] { zeroCpu with sp := 0xFFFF, f := Flags.ofByte 0xF0 } []).cpuStep
      (fun t => t.cpu.sp == 0x0000 && t.cpu.f.toByte == 0xF0 && t.cycles == some 8) = true := by decide

theorem test_decDe_1 :
    after (program 0x0100 [0x1B] { zeroCpu with d := 0x00, e := 0x00 } []).cpuStep
      (fun t => t.cpu.de == 0xFFFF && t.cycles == some 8) = true := by decide

theorem test_decHl_1 :
    after (program 0x0100 [0x2B] { zeroCpu with h := 0x01, l := 0x00, f := Flags.ofByte 0xF0 } []).cpuStep
      (fun t => t.cpu.hl == 0x00FF && t.cpu.f.toByte == 0xF0 && t.cycles == some 8) = true := by decide

theorem test_addSpE8_1 :
    after (program 0x0100 [0xE8, 0x02] { zeroCpu with sp := 0xFFF8, f := Flags.ofByte 0xC0 } []).cpuStep
      (fun t => t.cpu.sp == 0xFFFA && t.cpu.f.toByte == 0x00 && t.cycles == some 16) = true := by decide

theorem test_addSpE8_2 :
    after (program 0x0100 [0xE8, 0x01] { zeroCpu with sp := 0x0FFF, f := Flags.ofByte 0xC0 } []).cpuStep
      (fun t => t.cpu.sp == 0x1000 && t.cpu.f.toByte == 0x30 && t.cycles == some 16) = true := by decide

theorem test_rlca_1 :
    after (program 0x0100 [0x07] { zeroCpu with f := Flags.ofByte 0x00, a := 0x85 } []).cpuStep
      (fun t => t.cpu.f.toByte == 0x10 && t.cpu.a == 0x0B && t.cycles == some 4) = true := by decide

theorem test_rrca_1 :
    after (program 0x0100 [0x0F] { zeroCpu with f := Flags.ofByte 0x00, a := 0x85 } []).cpuStep
      (fun t => t.cpu.f.toByte == 0x10 && t.cpu.a == 0xC2 && t.cycles == some 4) = true := by decide

theorem test_rla_1 :
    after (program 0x0100 [0x17] { zeroCpu with f := Flags.ofByte 0x00, a := 0x85 } []).cpuStep
      (fun t => t.cpu.f.toByte == 0x10 && t.cpu.a == 0x0A && t.cycles == some 4) = true := by decide

theorem test_rra_1 :
    after (program 0x0100 [0x1F] { zeroCpu with f := Flags.ofByte 0x00, a := 0x85 } []).cpuStep
      (fun t => t.cpu.f.toByte == 0x10 && t.cpu.a == 0x42 && t.cycles == some 4) = true := by decide

theorem test_rlcB_1 :
    after (program 0x0100 [0xCB, 0x00] { zeroCpu with b := 0x85, f := Flags.ofByte 0x00 } []).cpuStep
      (fun t => t.cpu.b == 0x0B && t.cpu.f.toByte == 0x10 && t.cycles == some 8) = true := by decide

theorem test_rlcAtHl_1 :
    after (program 0x0100 [0xCB, 0x06] { zeroCpu with h := 0xC0, l := 0x00, f := Flags.ofByte 0x00 } [(0xC000, 0x85)]).cpuStep
      (fun t => t.busRead 0xC000 == 0x0B && t.cpu.f.toByte == 0x10 && t.cycles == some 16) = true := by decide

theorem test_rrcB_1 :
    after (program 0x0100 [0xCB, 0x08] { zeroCpu with b := 0x85, f := Flags.ofByte 0x00 } []).cpuStep
      (fun t => t.cpu.b == 0xC2 && t.cpu.f.toByte == 0x10 && t.cycles == some 8) = true := by decide

theorem test_rrcAtHl_1 :
    after (program 0x0100 [0xCB, 0x0E] { zeroCpu with h := 0xC0, l := 0x00, f := Flags.ofByte 0x00 } [(0xC000, 0x85)]).cpuStep
      (fun t => t.busRead 0xC000 == 0xC2 && t.cpu.f.toByte == 0x10 && t.cycles == some 16) = true := by decide

theorem test_rlB_1 :
    after (program 0x0100 [0xCB, 0x10] { zeroCpu with b := 0x85, f := Flags.ofByte 0x00 } []).cpuStep
      (fun t => t.cpu.b == 0x0A && t.cpu.f.toByte == 0x10 && t.cycles == some 8) = true := by decide

theorem test_rlAtHl_1 :
    after (program 0x0100 [0xCB, 0x16] { zeroCpu with h := 0xC0, l := 0x00, f := Flags.ofByte 0x00 } [(0xC000, 0x85)]).cpuStep
      (fun t => t.busRead 0xC000 == 0x0A && t.cpu.f.toByte == 0x10 && t.cycles == some 16) = true := by decide

theorem test_rrB_1 :
    after (program 0x0100 [0xCB, 0x18] { zeroCpu with b := 0x85, f := Flags.ofByte 0x00 } []).cpuStep
      (fun t => t.cpu.b == 0x42 && t.cpu.f.toByte == 0x10 && t.cycles == some 8) = true := by decide

theorem test_rrAtHl_1 :
    after (program 0x0100 [0xCB, 0x1E] { zeroCpu with h := 0xC0, l := 0x00, f := Flags.ofByte 0x00 } [(0xC000, 0x85)]).cpuStep
      (fun t => t.busRead 0xC000 == 0x42 && t.cpu.f.toByte == 0x10 && t.cycles == some 16) = true := by decide

theorem test_slaB_1 :
    after (program 0x0100 [0xCB, 0x20] { zeroCpu with b := 0x85, f := Flags.ofByte 0x00 } []).cpuStep
      (fun t => t.cpu.b == 0x0A && t.cpu.f.toByte == 0x10 && t.cycles == some 8) = true := by decide

theorem test_slaAtHl_1 :
    after (program 0x0100 [0xCB, 0x26] { zeroCpu with h := 0xC0, l := 0x00, f := Flags.ofByte 0x00 } [(0xC000, 0x85)]).cpuStep
      (fun t => t.busRead 0xC000 == 0x0A && t.cpu.f.toByte == 0x10 && t.cycles == some 16) = true := by decide

theorem test_sraB_1 :
    after (program 0x0100 [0xCB, 0x28] { zeroCpu with b := 0x85, f := Flags.ofByte 0x00 } []).cpuStep
      (fun t => t.cpu.b == 0xC2 && t.cpu.f.toByte == 0x10 && t.cycles == some 8) = true := by decide

theorem test_sraAtHl_1 :
    after (program 0x0100 [0xCB, 0x2E] { zeroCpu with h := 0xC0, l := 0x00, f := Flags.ofByte 0x00 } [(0xC000, 0x85)]).cpuStep
      (fun t => t.busRead 0xC000 == 0xC2 && t.cpu.f.toByte == 0x10 && t.cycles == some 16) = true := by decide

theorem test_swapB_1 :
    after (program 0x0100 [0xCB, 0x30] { zeroCpu with b := 0x85, f := Flags.ofByte 0x00 } []).cpuStep
      (fun t => t.cpu.b == 0x58 && t.cpu.f.toByte == 0x00 && t.cycles == some 8) = true := by decide

theorem test_swapAtHl_1 :
    after (program 0x0100 [0xCB, 0x36] { zeroCpu with h := 0xC0, l := 0x00, f := Flags.ofByte 0x00 } [(0xC000, 0x85)]).cpuStep
      (fun t => t.busRead 0xC000 == 0x58 && t.cpu.f.toByte == 0x00 && t.cycles == some 16) = true := by decide

theorem test_srlB_1 :
    after (program 0x0100 [0xCB, 0x38] { zeroCpu with b := 0x85, f := Flags.ofByte 0x00 } []).cpuStep
      (fun t => t.cpu.b == 0x42 && t.cpu.f.toByte == 0x10 && t.cycles == some 8) = true := by decide

theorem test_srlAtHl_1 :
    after (program 0x0100 [0xCB, 0x3E] { zeroCpu with h := 0xC0, l := 0x00, f := Flags.ofByte 0x00 } [(0xC000, 0x85)]).cpuStep
      (fun t => t.busRead 0xC000 == 0x42 && t.cpu.f.toByte == 0x10 && t.cycles == some 16) = true := by decide

theorem test_swapA_1 :
    after (program 0x0100 [0xCB, 0x37] { zeroCpu with a := 0x12 } []).cpuStep
      (fun t => t.cpu.a == 0x21 && t.cpu.f.toByte == 0x00 && t.cpu.pc == 0x0102 && t.cycles == some 8) = true := by decide

theorem test_bit7H_1 :
    after (program 0x0100 [0xCB, 0x7C] { zeroCpu with h := 0x80, f := Flags.ofByte 0x10 } []).cpuStep
      (fun t => t.cpu.f.toByte == 0x30 && t.cycles == some 8) = true := by decide

theorem test_bit0A_1 :
    after (program 0x0100 [0xCB, 0x47] { zeroCpu with a := 0xFE, f := Flags.ofByte 0x50 } []).cpuStep
      (fun t => t.cpu.f.toByte == 0xB0 && t.cycles == some 8) = true := by decide

theorem test_bit0AtHl_1 :
    after (program 0x0100 [0xCB, 0x46] { zeroCpu with h := 0xC0, l := 0x00, f := Flags.ofByte 0x00 } [(0xC000, 0x01)]).cpuStep
      (fun t => t.cpu.f.toByte == 0x20 && t.busRead 0xC000 == 0x01 && t.cycles == some 12) = true := by decide

theorem test_bit5AtHl_1 :
    after (program 0x0100 [0xCB, 0x6E] { zeroCpu with h := 0xC0, l := 0x00, f := Flags.ofByte 0x10 } [(0xC000, 0xDF)]).cpuStep
      (fun t => t.cpu.f.toByte == 0xB0 && t.cycles == some 12) = true := by decide

theorem test_res0A_1 :
    after (program 0x0100 [0xCB, 0x87] { zeroCpu with a := 0xFF, f := Flags.ofByte 0xF0 } []).cpuStep
      (fun t => t.cpu.a == 0xFE && t.cpu.f.toByte == 0xF0 && t.cycles == some 8) = true := by decide

theorem test_res7AtHl_1 :
    after (program 0x0100 [0xCB, 0xBE] { zeroCpu with h := 0xC0, l := 0x00 } [(0xC000, 0xFF)]).cpuStep
      (fun t => t.busRead 0xC000 == 0x7F && t.cycles == some 16) = true := by decide

theorem test_res0AtHl_1 :
    after ({ program 0x0100 [0xCB, 0x86] { zeroCpu with h := 0xFF, l := 0x0F } [] with ic := { iflag := 0xFF, ie := 0 } }).cpuStep
      (fun t => t.ic.iflag == 0xFE && t.cycles == some 16) = true := by decide

theorem test_set0B_1 :
    after (program 0x0100 [0xCB, 0xC0] { zeroCpu with b := 0x00, f := Flags.ofByte 0xA0 } []).cpuStep
      (fun t => t.cpu.b == 0x01 && t.cpu.f.toByte == 0xA0 && t.cycles == some 8) = true := by decide

theorem test_set3L_1 :
    after (program 0x0100 [0xCB, 0xDD] { zeroCpu with l := 0x08 } []).cpuStep
      (fun t => t.cpu.l == 0x08 && t.cycles == some 8) = true := by decide

theorem test_set7AtHl_1 :
    after (program 0x0100 [0xCB, 0xFE] { zeroCpu with h := 0xC0, l := 0x00 } [(0xC000, 0x00)]).cpuStep
      (fun t => t.busRead 0xC000 == 0x80 && t.cycles == some 16) = true := by decide

theorem test_set2AtHl_1 :
    after ({ program 0x0100 [0xCB, 0xD6] { zeroCpu with h := 0xFF, l := 0x0F } [] with ic := { iflag := 0x00, ie := 0 } }).cpuStep
      (fun t => t.ic.iflag == 0x04 && t.cycles == some 16) = true := by decide

theorem test_jpA16_1 :
    after (program 0xC000 [0xC3, 0x50, 0x01] { zeroCpu with sp := 0xD000 } []).cpuStep
      (fun t => t.cpu.pc == 0x0150 && t.cycles == some 16) = true := by decide

theorem test_jpZA16_1 :
    after (program 0xC000 [0xCA, 0x50, 0x01] { zeroCpu with sp := 0xD000, f := Flags.ofByte 0x80 } []).cpuStep
      (fun t => t.cpu.pc == 0x0150 && t.cycles == some 16) = true := by decide

theorem test_jpNcA16_1 :
    after (program 0xC000 [0xD2, 0x50, 0x01] { zeroCpu with sp := 0xD000, f := Flags.ofByte 0x10 } []).cpuStep
      (fun t => t.cpu.pc == 0xC003 && t.cycles == some 12) = true := by decide

theorem test_jpCA16_1 :
    after (program 0xC000 [0xDA, 0x50, 0x01] { zeroCpu with sp := 0xD000, f := Flags.ofByte 0x10 } []).cpuStep
      (fun t => t.cpu.pc == 0x0150 && t.cycles == some 16) = true := by decide

theorem test_jpNzA16_1 :
    after (program 0xC000 [0xC2, 0x50, 0x01] { zeroCpu with sp := 0xD000, f := Flags.ofByte 0x00 } []).cpuStep
      (fun t => t.cpu.pc == 0x0150 && t.cycles == some 16) = true := by decide

theorem test_jpHl_1 :
    after (program 0xC000 [0xE9] { zeroCpu with sp := 0xD000, h := 0xFF, l := 0x80 } []).cpuStep
      (fun t => t.cpu.pc == 0xFF80 && t.cycles == some 4) = true := by decide

theorem test_jrE8_1 :
    after (program 0xC000 [0x18, 0x05] { zeroCpu with sp := 0xD000 } []).cpuStep
      (fun t => t.cpu.pc == 0xC007 && t.cycles == some 12) = true := by decide

theorem test_jrNzE8_1 :
    after (program 0xC105 [0x20, 0xFB] { zeroCpu with sp := 0xD000, f := Flags.ofByte 0x00 } []).cpuStep
      (fun t => t.cpu.pc == 0xC102 && t.cycles == some 12) = true := by decide

theorem test_jrNzE8_2 :
    after (program 0xC105 [0x20, 0xFB] { zeroCpu with sp := 0xD000, f := Flags.ofByte 0x80 } []).cpuStep
      (fun t => t.cpu.pc == 0xC107 && t.cycles == some 8) = true := by decide

theorem test_jrCE8_1 :
    after (program 0xC000 [0x38, 0x10] { zeroCpu with sp := 0xD000, f := Flags.ofByte 0x10 } []).cpuStep
      (fun t => t.cpu.pc == 0xC012 && t.cycles == some 12) = true := by decide

theorem test_jrNcE8_1 :
    after (program 0xC000 [0x30, 0x10] { zeroCpu with sp := 0xD000, f := Flags.ofByte 0x10 } []).cpuStep
      (fun t => t.cpu.pc == 0xC002 && t.cycles == some 8) = true := by decide

theorem test_jrZE8_1 :
    after (program 0xC000 [0x28, 0x10] { zeroCpu with sp := 0xD000, f := Flags.ofByte 0x80 } []).cpuStep
      (fun t => t.cpu.pc == 0xC012 && t.cycles == some 12) = true := by decide

theorem test_callA16_1 :
    after (program 0xC000 [0xCD, 0x34, 0x12] { zeroCpu with sp := 0xD000 } []).cpuStep
      (fun t => t.cpu.pc == 0x1234 && t.cpu.sp == 0xCFFE && t.busRead 0xCFFF == 0xC0 && t.busRead 0xCFFE == 0x03 && t.cycles == some 24) = true := by decide

theorem test_callNzA16_1 :
    after (program 0xC000 [0xC4, 0x34, 0x12] { zeroCpu with sp := 0xD000, f := Flags.ofByte 0x80 } []).cpuStep
      (fun t => t.cpu.pc == 0xC003 && t.cpu.sp == 0xD000 && t.cycles == some 12) = true := by decide

theorem test_callNzA16_2 :
    after (program 0xC000 [0xC4, 0x34, 0x12] { zeroCpu with sp := 0xD000, f := Flags.ofByte 0x00 } []).cpuStep
      (fun t => t.cpu.pc == 0x1234 && t.cpu.sp == 0xCFFE && t.busRead 0xCFFF == 0xC0 && t.busRead 0xCFFE == 0x03 && t.cycles == some 24) = true := by decide

theorem test_callCA16_1 :
    after (program 0xC000 [0xDC, 0x34, 0x12] { zeroCpu with sp := 0xD000, f := Flags.ofByte 0x10 } []).cpuStep
      (fun t => t.cpu.pc == 0x1234 && t.cpu.sp == 0xCFFE && t.cycles == some 24) = true := by decide

theorem test_ret_1 :
    after (program 0xC000 [0xC9] { zeroCpu with sp := 0xCFFE } [(0xCFFE, 0x03), (0xCFFF, 0xC0)]).cpuStep
      (fun t => t.cpu.pc == 0xC003 && t.cpu.sp == 0xD000 && t.cycles == some 16) = true := by decide

theorem test_retZ_1 :
    after (program 0xC000 [0xC8] { zeroCpu with f := Flags.ofByte 0x80, sp := 0xCFFE } [(0xCFFE, 0x03), (0xCFFF, 0xC0)]).cpuStep
      (fun t => t.cpu.pc == 0xC003 && t.cpu.sp == 0xD000 && t.cycles == some 20) = true := by decide

theorem test_retZ_2 :
    after (program 0xC000 [0xC8] { zeroCpu with f := Flags.ofByte 0x00, sp := 0xCFFE } [(0xCFFE, 0x03), (0xCFFF, 0xC0)]).cpuStep
      (fun t => t.cpu.pc == 0xC001 && t.cpu.sp == 0xCFFE && t.cycles == some 8) = true := by decide

theorem test_retNc_1 :
    after (program 0xC000 [0xD0] { zeroCpu with f := Flags.ofByte 0x00, sp := 0xCFFE } [(0xCFFE, 0x03), (0xCFFF, 0xC0)]).cpuStep
      (fun t => t.cpu.pc == 0xC003 && t.cpu.sp == 0xD000 && t.cycles == some 20) = true := by decide

theorem test_reti_1 :
    after (program 0xC000 [0xD9] { zeroCpu with ime := false, sp := 0xCFFE } [(0xCFFE, 0x03), (0xCFFF, 0xC0)]).cpuStep
      (fun t => t.cpu.pc == 0xC003 && t.cpu.sp == 0xD000 && t.cpu.ime == true && t.cpu.imeDelay == 0 && t.cycles == some 16) = true := by decide

theorem test_rst38_1 :
    after (program 0xC000 [0xFF] { zeroCpu with sp := 0xD000 } []).cpuStep
      (fun t => t.cpu.pc == 0x0038 && t.cpu.sp == 0xCFFE && t.busRead 0xCFFF == 0xC0 && t.busRead 0xCFFE == 0x01 && t.cycles == some 16) = true := by decide

theorem test_rst00_1 :
    after (program 0xC000 [0xC7] { zeroCpu with sp := 0xD000 } []).cpuStep
      (fun t => t.cpu.pc == 0x0000 && t.cpu.sp == 0xCFFE && t.cycles == some 16) = true := by decide

theorem test_rst28_1 :
    after (program 0xC000 [0xEF] { zeroCpu with sp := 0xD000 } []).cpuStep
      (fun t => t.cpu.pc == 0x0028 && t.cpu.sp == 0xCFFE && t.cycles == some 16) = true := by decide

theorem test_nop_1 :
    after (program 0xC000 [0x00] { zeroCpu with f := Flags.ofByte 0xF0 } []).cpuStep
      (fun t => t.cpu.pc == 0xC001 && t.cpu.f.toByte == 0xF0 && t.cycles == some 4) = true := by decide

theorem test_stop_1 :
    after (program 0xC000 [0x10, 0x00] zeroCpu []).cpuStep
      (fun t => t.cpu.pc == 0xC002 && t.cpu.halted == false && t.cycles == some 4) = true := by decide

theorem test_halt_1 :
    after ({ program 0xC000 [0x76] { zeroCpu with ime := false } [] with ic := { ie := 0x00, iflag := 0x00 } }).cpuStep
      (fun t => t.cpu.halted == true && t.cpu.pc == 0xC001 && t.cycles == some 4) = true := by decide

theorem test_halt_2 :
    after ({ program 0xC000 [0x76] { zeroCpu with ime := false } [] with ic := { ie := 0x04, iflag := 0x04 } }).cpuStep
      (fun t => t.cpu.halted == false && t.cpu.haltBug == true && t.cpu.pc == 0xC001 && t.cycles == some 4) = true := by decide

theorem test_di_1 :
    after (program 0xC000 [0xF3] { zeroCpu with ime := true } []).cpuStep
      (fun t => t.cpu.ime == false && t.cpu.imeDelay == 0 && t.cycles == some 4) = true := by decide

theorem test_ei_1 :
    after (program 0xC000 [0xFB] { zeroCpu with ime := false, imeDelay := 0 } []).cpuStep
      (fun t => t.cpu.ime == false && t.cpu.imeDelay == 2 && t.cycles == some 4) = true := by decide

theorem test_illegalD3_1 :
    after (program 0xC000 [0xD3] zeroCpu []).cpuStep
      (fun t => t.cpu.fatal == true) = true := by decide

/-- R401 in a step that wakes the CPU, ends the EI delay and meets the byte under the halt bug: PC at the byte, the delay
decremented, IME, halted and halt_bug as before. -/
theorem test_illegalFD_keeps :
    after
      ({ program 0xC000 [0xFD] { zeroCpu with halted := true, haltBug := true, imeDelay := 2 } [] with
        ic := { iflag := 0x01, ie := 0x01 } } : State).cpuStep
      (fun t => t.cpu.fatal && t.cpu.pc == 0xC000 && t.cpu.imeDelay == 1 && t.cpu.halted && t.cpu.haltBug &&
        !t.cpu.ime && t.cycles == none) = true := by decide

/-- R401 in a step in which the EI delay runs out: IME is still 0. -/
theorem test_illegalD3_keepsIme :
    after (program 0xC000 [0xD3] { zeroCpu with imeDelay := 1 } []).cpuStep
      (fun t => t.cpu.fatal && t.cpu.pc == 0xC001 && t.cpu.imeDelay == 0 && !t.cpu.ime) = true := by decide

/-! ### Devices and interrupts (95_test_vectors.md part 3, 20_memory.md, 21_cartridge.md) -/

/-- Dispatch order and its push: sources 0 and 2 pending, source 0 is taken (3.1). -/
theorem test_dispatch :
    after
      ({ program 0xC123 [] { zeroCpu with sp := 0xD000, ime := true } [] with
        ic := { iflag := 0xE5, ie := 0x05 } } : State).cpuStep
      (fun t => t.cpu.pc == 0x0040 && t.cpu.sp == 0xCFFE && t.busRead 0xCFFF == 0xC1 && t.busRead 0xCFFE == 0x23 &&
        t.ic.iflag == 0xE4 && !t.cpu.ime && t.cycles == some 20) = true := by decide

/-- The halt bug: `LD A,d8` takes its own opcode as its operand (3.2, T8). -/
theorem test_halt_bug :
    after
      ({ program 0xC001 [0x3E, 0x14] { zeroCpu with haltBug := true } [] with
        ic := { iflag := 0x04, ie := 0x04 } } : State).cpuStep
      (fun t => t.cpu.a == 0x3E && t.cpu.pc == 0xC002 && !t.cpu.haltBug) = true := by decide

/-- The timer with its counter, TAC, TIMA and reload delay given, TMA = 0x80. -/
def withTimer (sysctr : Word) (tac tima : Byte) (delay : Nat) : State :=
  { State.reset with timer := { sysctr := sysctr, tima := tima, tma := 0x80, tac := tac, reloadDelay := delay } }

/-- Ticks: an edge, no edge at the ends of a long tick, an overflow, a reload with its request, a reload then an edge (3.3). -/
theorem test_timer_ticks :
    ((withTimer 0x000C 0x05 0x10 0).timerTick 4).timer.tima = 0x11 ∧
    ((withTimer 0x0000 0x05 0x10 0).timerTick 24).timer.tima = 0x10 ∧
    ((withTimer 0x000C 0x05 0xFF 0).timerTick 4).timer.reloadDelay = 4 ∧
    ((withTimer 0x0010 0x05 0x00 4).timerTick 4).timer.tima = 0x80 ∧
    ((withTimer 0x0010 0x05 0x00 4).timerTick 4).ic.iflag = 0x04 ∧
    ((withTimer 0x001C 0x05 0x00 4).timerTick 4).timer.tima = 0x81 := by decide

/-- Reads after writes of registers with a mask, and the debug sink (3.4). -/
theorem test_io_registers :
    (State.reset.busWrite 0xFF41 0xFF).busRead 0xFF41 = 0xFA ∧ (State.reset.busWrite 0xFF44 0x55).busRead 0xFF44 = 0x00 ∧
    (State.reset.busWrite 0xFF00 0x20).busRead 0xFF00 = 0xEF ∧ (State.reset.busWrite 0xFF26 0x00).busRead 0xFF26 = 0xFF ∧
    ((State.reset.busWrite 0xFF01 0x41).busWrite 0xFF02 0x81).bus.serialSink = [0x41] := by decide

/-- Scene S1: the top row of tile 1 in the first eight columns, through BGP = 0xE4 (3.6). -/
theorem test_scene_background :
    let p : Ppu :=
      { State.reset.ppu with lcdc := 0x91, bgp := 0xE4, vram := [(0x10, 0x3C), (0x11, 0x7E), (0x1800, 0x01)] }
    (List.range 8).map (fun x => shade p.bgp (p.bgIdx 0 x)) = [0, 2, 3, 3, 3, 3, 2, 0] := by decide

/-- Bank numbers: 0x20 written to a type-1 cartridge selects bank 1 (21_cartridge.md R121), 0 is coerced. -/
theorem test_bank_zero :
    romBankOf 0x1F 0x20 = 1 ∧ romBankOf 0x1F 0x1F = 0x1F ∧ romBankOf 0x7F 0x00 = 1 ∧ romBankOf 0x7F 0xFF = 0x7F := by decide

/-- The clock one second before the day counter overflows (21_cartridge.md R135). -/
theorem test_clock_overflow :
    Rtc.advanced { seconds := 59, minutes := 59, hours := 23, dayLow := 0xFF, dayHigh := 0x01 } 1 =
      { seconds := 0, minutes := 0, hours := 0, dayLow := 0, dayHigh := 0x80 } := by decide

/-- Placing a table word and fetching it, on the reset state. -/
theorem test_withFetchWord :
    after (step (State.reset.withFetchWord 16 0x123E)) (fun t => t.cpu.a == 0x12 && t.cpu.pc == 0x0102) = true := by decide

/-! ### Witnesses: states and operands that meet the hypotheses of the statements -/

theorem goes_of {r : Result} (h : after r (fun _ => true) = true) : ∃ t, r = .next t := by
  cases r with
  | next t => exact ⟨t, rfl⟩
  | fault e => cases h
  | refused e => cases h

/-- A state with other CPU registers, and IF and IE given. -/
def withCpu (k : Cpu) (iflag ie : Byte) : State := { State.reset with cpu := k, ic := { iflag := iflag, ie := ie } }

/-- The CPU fetching from work RAM, with IME, the EI delay and the two halt bits given. -/
def cpuIn (ime : Bool) (delay : Nat) (halted haltBug : Bool) : Cpu :=
  { zeroCpu with pc := 0xC000, ime := ime, imeDelay := delay, halted := halted, haltBug := haltBug }

theorem witness_EncodeOfDecode :
    decode [0xCB, 0x7C, 0x00] = .ok (.bit7H, [0x00]) ∧ decode [0xEA, 0xFF, 0xFF] = .ok (.ldAtA16A 0xFFFF, []) :=
  ⟨rfl, rfl⟩

theorem witness_PushPopRoundTrip :
    (∃ s t u : State, s.ramAt (s.cpu.sp - 1) = true ∧ s.ramAt (s.cpu.sp - 2) = true ∧
      s.sameByte (s.cpu.sp - 2) (s.cpu.sp - 1) = false ∧ exec (Instr.push .bc) s = .next t ∧
      exec (Instr.pop .hl) t = .next u) ∧
    ∃ s t u : State, s.ramAt (s.cpu.sp - 1) = true ∧ s.ramAt (s.cpu.sp - 2) = true ∧
      s.sameByte (s.cpu.sp - 2) (s.cpu.sp - 1) = false ∧ exec (Instr.push .de) s = .next t ∧
      exec (Instr.pop .af) t = .next u :=
  ⟨⟨program 0 [] { zeroCpu with sp := 0xC002 } [], _, _, by decide, by decide, by decide, rfl, rfl⟩,
    ⟨program 0 [] { zeroCpu with sp := 0xE000 } [], _, _, by decide, by decide, by decide, rfl, rfl⟩⟩

theorem witness_DecimalArithmetic :
    (∃ s t u : State, s.cpu.a = 0x99 ∧ exec (Instr.aluImm .add 0x99) s = .next t ∧ exec .daa t = .next u) ∧
    ∃ s t u : State, s.cpu.a = 0x00 ∧ exec (Instr.aluImm .sub 0x99) s = .next t ∧ exec .daa t = .next u :=
  ⟨⟨withCpu { zeroCpu with a := 0x99 } 0 0, _, _, rfl, rfl, rfl⟩, ⟨withCpu zeroCpu 0 0, _, _, rfl, rfl, rfl⟩⟩

/-- Jumps, CallsAndRestarts, Returns: every condition holds for some flags and fails for some. -/
theorem witness_conditionHolds (cc : Cond) : (∃ f, conditionHolds f cc) ∧ ∃ f, ¬conditionHolds f cc := by
  refine ⟨⟨{ z := cc == .z, n := false, h := false, c := cc == .c }, ?_⟩,
    ⟨{ z := cc == .nz, n := false, h := false, c := cc == .nc }, ?_⟩⟩ <;>
    cases cc <;> simp [conditionHolds]

theorem witness_SystemInstructions :
    State.reset.env.stop = .nop2 ∧
    (∃ s : State, s.env.stop = .refuse) ∧
    (∃ s : State, s.cpu.ime = false ∧ s.ic.iflag &&& s.ic.ie &&& 0x1F ≠ 0) ∧
    (∃ s : State, s.cpu.ime = true ∧ s.ic.iflag &&& s.ic.ie &&& 0x1F ≠ 0) ∧
    (State.reset.cpu.ime = false ∧ State.reset.ic.iflag &&& State.reset.ic.ie &&& 0x1F = 0) ∧
    State.reset.cpu.imeDelay = 0 ∧ ∃ s : State, s.cpu.imeDelay ≠ 0 :=
  ⟨rfl, ⟨{ State.reset with env := { State.reset.env with stop := .refuse } }, rfl⟩,
    ⟨withCpu zeroCpu 0x10 0x10, by decide⟩, ⟨withCpu (cpuIn true 0 false false) 0x01 0x01, by decide⟩, by decide, rfl,
    ⟨withCpu (cpuIn false 2 false false) 0 0, by decide⟩⟩

theorem witness_InvalidOpcodesAreFatal :
    Instr.illegalD3.invalidOpcode? = some 0xD3 ∧ Instr.illegalFD.invalidOpcode? = some 0xFD ∧
    ∃ s : State, s.cpu.fatal = true ∧ step s = .fault .fatalStuck :=
  ⟨rfl, rfl, ⟨withCpu { zeroCpu with fatal := true, illegalOp := some 0xD3 } 0 0, rfl, rfl⟩⟩

/-- The hypotheses of a step that decodes an invalid opcode: with no request pending and the EI delay running out, and with
one pending that ends a halt, under the halt bug. -/
theorem witness_InvalidOpcodesAreFatal_step :
    (∃ s : State,
      let u := (afterHostTurn s).delayedEnable
      s.cpu.fatal = false ∧ u.ic.iflag &&& u.ic.ie &&& 0x1F = 0 ∧ u.cpu.halted = false ∧ u.cpu.ime = true ∧
      s.cpu.ime = false ∧ u.busRead u.cpu.pc = 0xD3 ∧ (0xD3 : Byte) ∈ invalidOpcodes) ∧
    ∃ s : State,
      let u := (afterHostTurn s).delayedEnable
      s.cpu.fatal = false ∧ u.ic.iflag &&& u.ic.ie &&& 0x1F ≠ 0 ∧ u.cpu.ime = false ∧ u.cpu.halted = true ∧
      u.cpu.haltBug = true ∧ u.busRead u.cpu.pc = 0xFD ∧ (0xFD : Byte) ∈ invalidOpcodes :=
  ⟨⟨program 0xC000 [0xD3] (cpuIn false 1 false false) [], by decide⟩,
    ⟨{ program 0xC000 [0xFD] (cpuIn false 2 true true) [] with ic := { iflag := 0x01, ie := 0x01 } }, by decide⟩⟩

/-- The hypotheses of `StepRunsTheDecodedInstruction`, with no request pending, and with one pending that ends a halt. -/
theorem witness_StepRunsTheDecodedInstruction :
    (∃ (s : State) (i : Instr) (rest : List Byte),
      let u := (afterHostTurn s).delayedEnable
      let pending := u.ic.iflag &&& u.ic.ie &&& 0x1F
      s.cpu.fatal = false ∧ pending = 0 ∧ u.cpu.halted = false ∧ u.cpu.haltBug = false ∧
      decode [u.busRead u.cpu.pc, u.busRead (u.cpu.pc + 1), u.busRead (u.cpu.pc + 2)] = .ok (i, rest) ∧
      i.invalidOpcode? = none) ∧
    ∃ (s : State) (i : Instr) (rest : List Byte),
      let u := (afterHostTurn s).delayedEnable
      let pending := u.ic.iflag &&& u.ic.ie &&& 0x1F
      s.cpu.fatal = false ∧ pending ≠ 0 ∧ u.cpu.ime = false ∧ u.cpu.halted = true ∧ u.cpu.haltBug = false ∧
      decode [u.busRead u.cpu.pc, u.busRead (u.cpu.pc + 1), u.busRead (u.cpu.pc + 2)] = .ok (i, rest) ∧
      i.invalidOpcode? = none :=
  ⟨⟨program 0xC000 [0x3E, 0x77] (cpuIn true 0 false false) [], .ldAD8 0x77, [0x00], rfl, rfl, rfl, rfl,
      congrArg decode (by decide : _ = ([0x3E, 0x77, 0x00] : List Byte)), rfl⟩,
    ⟨withCpu (cpuIn false 0 true false) 0x10 0x10, .nop, [0x00, 0x00], rfl, by decide, rfl, rfl, rfl, rfl, rfl⟩⟩

/-- A host's turn with an entry of the queue and one without. -/
theorem witness_afterHostTurn :
    State.reset.env.actions = [] ∧
    ∃ s : State, ∃ act : HostAction, ∃ later, s.env.actions = act :: later ∧ act.requestJoypad = true ∧ act.seconds = 2 :=
  ⟨rfl, { State.reset with env := { State.reset.env with actions := [{ joypad := none, requestJoypad := true, seconds := 2 }] } },
    { joypad := none, requestJoypad := true, seconds := 2 }, [], rfl, rfl, rfl⟩

theorem witness_HaltBugRepeatsTheOpcodeByte :
    ∃ (s : State) (i : Instr) (rest : List Byte),
      let u := (afterHostTurn s).delayedEnable
      let pending := u.ic.iflag &&& u.ic.ie &&& 0x1F
      s.cpu.fatal = false ∧ pending ≠ 0 ∧ u.cpu.ime = false ∧ u.cpu.halted = false ∧ u.cpu.haltBug = true ∧
      decode [u.busRead u.cpu.pc, u.busRead u.cpu.pc, u.busRead (u.cpu.pc + 1)] = .ok (i, rest) ∧
      i.invalidOpcode? = none :=
  ⟨{ program 0xC000 [0x3E, 0x14] (cpuIn false 0 false true) [] with ic := { iflag := 0x04, ie := 0x04 } }, .ldAD8 0x3E,
    [0x14], rfl, by decide, rfl, rfl, rfl, congrArg decode (by decide : _ = ([0x3E, 0x3E, 0x14] : List Byte)),
    rfl⟩

theorem witness_DelayAndWakeUp :
    (∃ s : State, s.cpu.imeDelay = 0) ∧ (∃ s : State, s.cpu.imeDelay = 1) ∧ (∃ s : State, s.cpu.imeDelay = 0 + 2) ∧
    (∃ s : State, s.delayedEnable.cpu.halted = true ∧
      s.delayedEnable.ic.iflag &&& s.delayedEnable.ic.ie &&& 0x1F = 0) ∧
    ∃ s : State, s.delayedEnable.cpu.ime = false ∧
      s.delayedEnable.ic.iflag &&& s.delayedEnable.ic.ie &&& 0x1F ≠ 0 ∧
      s.delayedEnable.busRead s.delayedEnable.cpu.pc ∉ invalidOpcodes :=
  ⟨⟨State.reset, rfl⟩, ⟨withCpu (cpuIn false 1 false false) 0 0, rfl⟩, ⟨withCpu (cpuIn false 2 false false) 0 0, rfl⟩,
    ⟨withCpu (cpuIn true 0 true false) 0xE0 0xFF, by decide⟩, ⟨withCpu (cpuIn false 2 true false) 0x1F 0x10, by decide⟩⟩

theorem witness_InterruptDispatch :
    (∃ s : State, s.delayedEnable.cpu.ime = true ∧
      (s.delayedEnable.ic.iflag &&& s.delayedEnable.ic.ie &&& 0x1F).getLsbD 0 = true) ∧
    ∃ s : State, s.delayedEnable.cpu.ime = true ∧
      (s.delayedEnable.ic.iflag &&& s.delayedEnable.ic.ie &&& 0x1F).getLsbD 4 = true ∧
      ∀ m, m < 4 → (s.delayedEnable.ic.iflag &&& s.delayedEnable.ic.ie &&& 0x1F).getLsbD m = false :=
  ⟨⟨withCpu (cpuIn true 0 false false) 0x1F 0x1F, by decide⟩, ⟨withCpu (cpuIn false 1 false false) 0xFF 0x10, by decide⟩⟩

/-- The branches of `OnlyTheseWriteIme`: a dispatch, an idle step, DI, RETI, an invalid opcode, another instruction. -/
theorem witness_OnlyTheseWriteIme :
    (∃ s t : State, step s = .next t ∧ (afterHostTurn s).delayedEnable.dispatches = true) ∧
    (∃ s t : State, step s = .next t ∧ (afterHostTurn s).delayedEnable.dispatches = false ∧
      (afterHostTurn s).delayedEnable.wake.cpu.halted = true) ∧
    (∃ s t : State, step s = .next t ∧ (afterHostTurn s).delayedEnable.wake.fetchedInstr = .di) ∧
    (∃ s t : State, step s = .next t ∧ (afterHostTurn s).delayedEnable.wake.fetchedInstr = .reti) ∧
    (∃ s t : State, step s = .next t ∧ (afterHostTurn s).delayedEnable.wake.fetchedInstr = .illegalD3 ∧
      (afterHostTurn s).delayedEnable.cpu.ime ≠ s.cpu.ime) ∧
    ∃ s t : State, step s = .next t ∧ (afterHostTurn s).delayedEnable.wake.fetchedInstr = .nop := by
  refine ⟨⟨withCpu (cpuIn true 0 false false) 0x01 0x01, ?_⟩, ⟨withCpu (cpuIn true 0 true false) 0 0, ?_⟩,
    ⟨program 0xC000 [0xF3] (cpuIn true 0 false false) [], ?_⟩, ⟨program 0xC000 [0xD9] (cpuIn false 0 false false) [], ?_⟩,
    ⟨program 0xC000 [0xD3] (cpuIn false 1 false false) [], ?_⟩, ⟨withCpu (cpuIn true 0 false false) 0 0, ?_⟩⟩
  · exact (goes_of (by decide)).imp fun t h => ⟨h, by decide⟩
  · exact (goes_of (by decide)).imp fun t h => ⟨h, by decide⟩
  · exact (goes_of (by decide)).imp fun t h => ⟨h, by decide⟩
  · exact (goes_of (by decide)).imp fun t h => ⟨h, by decide⟩
  · exact (goes_of (by decide)).imp fun t h => ⟨h, by decide⟩
  · exact (goes_of (by decide)).imp fun t h => ⟨h, by decide⟩

/-- A step into the FATAL state, and one that does not go there. -/
theorem witness_EveryStepGoesOn_fatal :
    (∃ s t : State, s.cpu.fatal = false ∧ step s = .next t ∧ s.meetsInvalidOpcode) ∧
    ∃ s t : State, s.cpu.fatal = false ∧ step s = .next t ∧ ¬s.meetsInvalidOpcode :=
  ⟨⟨program 0xC000 [0xD3] (cpuIn false 0 false false) [],
      (goes_of (by decide)).imp fun t h => ⟨rfl, h, by unfold State.meetsInvalidOpcode; decide⟩⟩,
    ⟨State.reset, (goes_of (by decide)).imp fun t h => ⟨rfl, h, by unfold State.meetsInvalidOpcode; decide⟩⟩⟩

theorem witness_EveryStepGoesOn :
    State.reset.cpu.fatal = false ∧ State.reset.env.stop = .nop2 ∧
    ∀ m t, m < 1 → runSteps m State.reset = .next t → t.cpu.fatal = false := by
  refine ⟨rfl, rfl, fun m t hm h => ?_⟩
  obtain rfl : m = 0 := by omega
  injection h with h
  rw [← h]
  rfl

theorem witness_EffectIsItsBusWrites :
    (∃ s t : State, exec .nop s = .next t) ∧ (∃ s t : State, exec .ldAtHlA s = .next t) ∧
    ∃ s t : State, exec (Instr.push .af) s = .next t :=
  ⟨⟨State.reset, _, rfl⟩, ⟨State.reset, _, rfl⟩, ⟨State.reset, _, rfl⟩⟩

/-- Out of reach of a push: the bytes just below and just above the two stored. -/
theorem witness_MemoryFrame :
    (∃ s t : State, exec (Instr.push .af) s = .next t ∧ s.outOfReach 0xDFED ((Instr.push .af).stores s) ∧
      s.outOfReach 0xDFF0 ((Instr.push .af).stores s)) ∧
    ∃ s t : State, exec .nop s = .next t ∧ s.outOfReach 0xDFEE (Instr.nop.stores s) :=
  ⟨⟨withCpu zeroCpu 0 0, _, rfl, ⟨by decide, by decide, trivial⟩, ⟨by decide, by decide, trivial⟩⟩,
    ⟨withCpu zeroCpu 0 0, _, rfl, trivial⟩⟩

/-- A cartridge with RAM or a clock, for the statements about the bank controllers. -/
def withCart (variant : Variant) (ramSize : Nat) (ramEnable bankMode : Bool) (secReg : Byte) : State :=
  { State.reset with
    cart :=
      { State.reset.cart with
        variant := variant, ramSize := ramSize, ramEnable := ramEnable, bankMode := bankMode, secReg := secReg
        romBanks := 128, hasRtc := variant == .type3 } }

theorem witness_RamReadAfterWrite :
    ([0x8000, 0x9FFF, 0xC000, 0xDFFF, 0xE000, 0xFDFF, 0xFE00, 0xFE9F, 0xFF80, 0xFFFE].all State.reset.ramAt = true) ∧
    (withCart .type1 0x2000 true false 0).ramAt 0xA000 = true ∧ (withCart .type1 0x2000 true false 0).ramAt 0xBFFF = true ∧
    State.reset.sameByte 0xC000 0xE000 = true ∧ State.reset.sameByte 0xC000 0xC001 = false := by
  decide

theorem witness_WriteReach :
    State.reset.reaches 0xC000 0xC001 = false ∧ State.reset.reaches 0x0000 0x3FFF = false ∧
    State.reset.reaches 0x7FFF 0x8000 = false ∧ State.reset.reaches 0xFF04 0xFF06 = false ∧
    State.reset.reaches 0xFF46 0xFEA0 = false ∧ State.reset.reaches 0xFF50 0x0100 = false ∧
    State.reset.reaches 0xFF44 0xFF44 = false ∧ State.reset.reaches 0xFFFF 0xFFFE = false ∧
    State.reset.reaches 0xFEFF 0xFEFF = false := by
  decide

theorem witness_EchoAndUnmapped :
    (0 < 0x1E00 ∧ 0x1DFF < 0x1E00) ∧
    ([0xFEA0, 0xFEFF, 0xFF03, 0xFF08, 0xFF0E, 0xFF10, 0xFF3F, 0xFF4C, 0xFF4F, 0xFF51, 0xFF7F].all fun a : Word =>
      decide ((0xFEA0 ≤ a.toNat ∧ a.toNat ≤ 0xFEFF) ∨ a.toNat = 0xFF03 ∨ (0xFF08 ≤ a.toNat ∧ a.toNat ≤ 0xFF0E) ∨
        (0xFF10 ≤ a.toNat ∧ a.toNat ≤ 0xFF3F) ∨ (0xFF4C ≤ a.toNat ∧ a.toNat ≤ 0xFF4F) ∨
        (0xFF51 ≤ a.toNat ∧ a.toNat ≤ 0xFF7F))) = true := by
  decide

theorem witness_DeviceRegisters (k : BitVec 2) : ∃ s : State, s.bus.joypSel = k :=
  ⟨{ State.reset with bus := { State.reset.bus with joypSel := k } }, rfl⟩

theorem witness_OamDmaCopiesAPage : 0 < 0xA0 ∧ 0x9F < 0xA0 := by decide

theorem witness_RomWindowAndOverlay :
    (∃ s : State, s.bus.bootEnabled = true ∧ (0x00FF : Word).toNat < 0x100) ∧ State.reset.bus.bootEnabled = false ∧
    0x100 ≤ (0x0100 : Word).toNat ∧ (0x3FFF : Word).toNat < 0x4000 ∧ 0x4000 ≤ (0x4000 : Word).toNat ∧
    (0x7FFF : Word).toNat < 0x8000 :=
  ⟨⟨{ State.reset with bus := { State.reset.bus with bootEnabled := true } }, by decide⟩, by decide⟩

theorem witness_BankControllers :
    ((withCart .type1 0 false false 3).cart.variant = .type1 ∧ (withCart .type1 0 false false 3).cartOk ∧
      (withCart .type1 0 false false 3).cart.bankMode = false) ∧
    ((withCart .type1 0 false true 3).cartOk ∧ (withCart .type1 0 false true 3).cart.bankMode = true) ∧
    ((withCart .type3 0 false false 0).cart.variant = .type3 ∧
      (withCart .type3 0 false false 0).cart.latchPrev ≠ 0x00) ∧
    State.reset.cart.variant = .type0 ∧
    ([0x0000, 0x1FFF].all fun a : Word => decide (a.toNat < 0x2000)) = true ∧
    ([0x2000, 0x3FFF].all fun a : Word => decide (0x2000 ≤ a.toNat ∧ a.toNat < 0x4000)) = true ∧
    ([0x4000, 0x5FFF].all fun a : Word => decide (0x4000 ≤ a.toNat ∧ a.toNat < 0x6000)) = true ∧
    ([0x6000, 0x7FFF].all fun a : Word => decide (0x6000 ≤ a.toNat ∧ a.toNat < 0x8000)) = true := by
  decide

/-- Each way of having nothing behind the external window, and each way of having RAM there. -/
theorem witness_ExternalWindow :
    ([0xA000, 0xBFFF].all fun a : Word => decide (0xA000 ≤ a.toNat ∧ a.toNat < 0xC000)) = true ∧
    (State.reset.cart.variant = .type0 ∧ State.reset.cart.ramSize = 0) ∧
    ((withCart .type1 0x2000 false false 0).cart.variant = .type1 ∧
      (withCart .type1 0x2000 false false 0).cart.ramEnable = false) ∧
    ((withCart .type3 0 true false 3).cart.secReg.toNat ≤ 3 ∧ (withCart .type3 0 true false 3).cart.ramSize = 0) ∧
    (4 ≤ (withCart .type3 0x8000 true false 7).cart.secReg.toNat ∧
      (withCart .type3 0x8000 true false 7).cart.secReg.toNat ≤ 7) ∧
    13 ≤ (withCart .type3 0x8000 true false 13).cart.secReg.toNat ∧
    (∃ s : State, 8 ≤ s.cart.secReg.toNat ∧ s.cart.hasRtc = false ∧ s.cart.variant = .type3) ∧
    ((withCart .type0 0x2000 false false 0).cart.ramSize ≠ 0 ∧ (withCart .type0 0x2000 false false 0).cart.variant = .type0) ∧
    ((withCart .type1 0x8000 true true 3).cart.bankMode = true ∧ (withCart .type1 0x8000 true true 3).cart.ramSize ≠ 0) ∧
    ((withCart .type1 0x800 true false 3).cart.bankMode = false ∧ (withCart .type1 0x800 true false 3).cart.ramSize ≠ 0) ∧
    ((withCart .type3 0x8000 true false 3).cart.ramEnable = true ∧
      (withCart .type3 0x8000 true false 3).cart.secReg.toNat ≤ 3) := by
  refine ⟨by decide, by decide, by decide, by decide, by decide, by decide, ?_, by decide, by decide, by decide, by decide⟩
  exact ⟨{ withCart .type1 0 true false 12 with cart := { (withCart .type1 0 true false 12).cart with variant := .type3 } },
    by decide⟩

theorem witness_RealTimeClock :
    ((withCart .type3 0 true false 12).cart.variant = .type3 ∧ (withCart .type3 0 true false 12).cart.hasRtc = true ∧
      (withCart .type3 0 true false 12).cart.secReg.toNat = 8 + 4 ∧
      (withCart .type3 0 true false 12).cart.ramEnable = true ∧
      (withCart .type3 0 true false 12).cart.latchPrev ≠ 0x00) ∧
    ((withCart .type3 0 true false 8).cart.secReg.toNat = 8 + 0) ∧
    (∃ s : State, s.cart.variant = .type3 ∧ s.cart.hasRtc = true ∧ s.cart.latchPrev = 0x00 ∧
      s.cart.rtcLive.dayHigh.getLsbD 6 = true) ∧
    ∃ s : State, s.cart.variant = .type3 ∧ s.cart.hasRtc = true ∧ s.cart.latchPrev = 0x00 ∧
      s.cart.rtcLive.dayHigh.getLsbD 6 = false ∧ s.cart.rtcBase ≤ s.env.rtcNow := by
  refine ⟨by decide, by decide, ?_, ?_⟩
  · exact ⟨{ withCart .type3 0 true false 8 with
      cart := { (withCart .type3 0 true false 8).cart with latchPrev := 0, rtcLive := Rtc.set State.reset.cart.rtcLive 4 0x40 } },
      by decide⟩
  · exact ⟨{ withCart .type3 0 true false 8 with cart := { (withCart .type3 0 true false 8).cart with latchPrev := 0 } },
      by decide⟩

/-- The PPU in a mode, on a line, with a mode clock. -/
def inMode (m : BitVec 2) (ly : Byte) (clock : Nat) : State :=
  { State.reset with ppu := { State.reset.ppu with stat := m.setWidth 8, ly := ly, modeClock := clock } }

/-- Each clause of `PpuStepIsTheLoop` where its time is just up or, the last, just not up, after a step of 4 cycles. -/
theorem witness_PpuStepIsTheLoop :
    ((inMode 2 0 76).ppu.mode = 2 ∧ 80 ≤ (inMode 2 0 76).ppu.modeClock + 4) ∧
    ((inMode 3 0 168).ppu.mode = 3 ∧ 172 ≤ (inMode 3 0 168).ppu.modeClock + 4) ∧
    ((inMode 0 142 200).ppu.mode = 0 ∧ 204 ≤ (inMode 0 142 200).ppu.modeClock + 4 ∧ (inMode 0 142 200).ppu.ly ≠ 143) ∧
    ((inMode 0 143 200).ppu.mode = 0 ∧ (inMode 0 143 200).ppu.ly = 143) ∧
    ((inMode 1 152 452).ppu.mode = 1 ∧ 456 ≤ (inMode 1 152 452).ppu.modeClock + 4 ∧ (inMode 1 152 452).ppu.ly ≠ 153) ∧
    ((inMode 1 153 452).ppu.mode = 1 ∧ (inMode 1 153 452).ppu.ly = 153) ∧
    ((inMode 1 153 451).ppu.mode = 1 ∧ (inMode 1 153 451).ppu.modeClock + 4 < 456) := by
  decide

theorem witness_FrameTakes70224Cycles :
    State.reset.ppu.mode = 2 ∧ State.reset.ppu.ly = 0 ∧ State.reset.ppu.modeClock = 0 := by
  decide

theorem witness_BackgroundAndWindowIndex :
    (143 < 144 ∧ 159 < 160) ∧ (inMode 3 143 0).ppu.lcdc.getLsbD 0 = true ∧
    (∃ p : Ppu, p.lcdc.getLsbD 0 = false) ∧
    (∃ p : Ppu, p.lcdc.getLsbD 0 = true ∧ p.lcdc.getLsbD 5 = true ∧ p.wy.toNat ≤ 143 ∧ p.wx.toNat ≤ 166 ∧
      p.wx.toNat ≤ 159 + 7) ∧
    ∃ p : Ppu, p.lcdc.getLsbD 0 = true ∧ p.lcdc.getLsbD 5 = true ∧ ¬p.wx.toNat ≤ 166 :=
  ⟨by decide, by decide, ⟨{ State.reset.ppu with lcdc := 0xFE }, by decide⟩,
    ⟨{ State.reset.ppu with lcdc := 0xFF, wy := 143, wx := 166 }, by decide⟩,
    ⟨{ State.reset.ppu with lcdc := 0xFF, wx := 167 }, by decide⟩⟩

/-- Sprites off; sprites on with one that draws at column 0 of line 0, and with one whose colour index there is 0. -/
theorem witness_RenderedLine :
    let p : Ppu := { State.reset.ppu with lcdc := 0x93, oam := [(0, 16), (1, 8)] }
    let q : Ppu := { p with vram := [(0, 0x80)] }
    (∃ p : Ppu, p.lcdc.getLsbD 1 = false) ∧ p.lcdc.getLsbD 1 = true ∧
    p.selectedSprites 0 = [p.sprite 0] ∧ p.spriteIdx 0 (p.sprite 0) 0 = 0 ∧ q.spriteIdx 0 (q.sprite 0) 0 ≠ 0 ∧
    (∃ k, k < 160 * 1) ∧ ∃ k, 160 * 143 + 160 ≤ k :=
  ⟨⟨State.reset.ppu, by decide⟩, by decide, by decide, by decide, by decide, ⟨0, by decide⟩, ⟨23040, by decide⟩⟩

/-- Eleven sprites on line 0: one of them is left out; and a sprite whose last row the line shows. -/
theorem witness_SpriteSelectionAndPixel :
    let p : Ppu := { State.reset.ppu with oam := (List.range 11).map fun i => (4 * i, 16) }
    (Cells.read p.oam (4 * 0)).toNat ≤ 0 + 16 ∧ (Cells.read p.oam (4 * 10)).toNat ≤ 0 + 16 ∧
    (p.selectedSprites 0).length = 10 ∧ 0 + 16 < (Cells.read p.oam 0).toNat + 8 ∧
    (let o : Sprite := { y := 9, x := 0, tile := 0, attr := 0 }
     o.y.toNat ≤ 0 + 16 ∧ 0 + 16 < o.y.toNat + 8) := by
  decide

theorem witness_invariants :
    State.reset.memoryOk ∧ State.reset.cpuOk ∧ State.reset.clocksOk ∧ State.reset.ppuOk ∧ State.reset.cartOk ∧
    ∃ t, step State.reset = .next t :=
  ⟨by decide, by decide, by decide, by decide, by decide, goes_of (by decide)⟩

theorem loadCart_zeros (n now : Nat) (hn : 0x150 ≤ n) : ∃ c, loadCart (List.replicate n 0) now = .ok c := by
  have h : ∀ k, (List.replicate n (0 : Byte)).getD k 0 = 0 := by
    intro k
    rw [List.getD_eq_getElem?_getD, List.getElem?_replicate]
    split <;> rfl
  unfold loadCart
  rw [if_neg (by rw [List.length_replicate]; omega), h, h, h]
  exact ⟨_, rfl⟩

theorem powerOn_zeros (n m : Nat) (hn : 0x150 ≤ n) (hm : m = 0x100) :
    (∃ s, powerOn { Launch.default with cartImage := List.replicate n 0 } = .ok s) ∧
    ∃ s, powerOn { Launch.default with cartImage := List.replicate n 0, bootImage := some (List.replicate m 0) } = .ok s := by
  obtain ⟨c, hc⟩ := loadCart_zeros n 0 hn
  have hm' : (List.replicate m (0 : Byte)).length = 0x100 := by rw [List.length_replicate, hm]
  unfold powerOn
  rw [show loadCart _ Launch.default.rtcNow = Except.ok c from hc]
  exact ⟨⟨_, rfl⟩, ⟨_, if_pos hm'⟩⟩

/-- Launch parameters that give a machine, of each profile (`InvariantsHoldAtReset`, `ResetProfiles`). -/
theorem witness_powerOn :
    (∃ (p : Launch) (s : State), powerOn p = .ok s ∧ p.bootImage = none ∧ p.ram = .zero) ∧
    ∃ (p : Launch) (s : State), powerOn p = .ok s ∧ p.bootImage ≠ none := by
  obtain ⟨⟨s, hs⟩, t, ht⟩ := powerOn_zeros 0x150 0x100 le_rfl rfl
  exact ⟨⟨_, s, hs, rfl, rfl⟩, ⟨_, t, ht, fun h => by cases h⟩⟩

/-- No write to DIV, a write by the instruction, and a write by each of the two pushes of a dispatch. -/
theorem witness_CounterMovesByTheCycles :
    let dispatching (sp : Word) := withCpu { cpuIn true 0 false false with sp := sp } 0x01 0x01
    (after (step State.reset) (fun t => t.cycles == some 4) = true ∧ writesDiv State.reset = false) ∧
    (after (step (program 0xC000 [0xE0, 0x04] (cpuIn false 0 false false) [])) (fun t => t.cycles == some 12) = true ∧
      writesDiv (program 0xC000 [0xE0, 0x04] (cpuIn false 0 false false) []) = true) ∧
    (after (step (dispatching 0xFF05)) (fun t => t.cycles == some 20) = true ∧ writesDiv (dispatching 0xFF05) = true) ∧
    after (step (dispatching 0xFF06)) (fun t => t.cycles == some 20) = true ∧ writesDiv (dispatching 0xFF06) = true := by
  decide

theorem witness_OneWayState :
    State.reset.bus.bootEnabled = false ∧ ∃ t, step State.reset = .next t := ⟨rfl, goes_of (by decide)⟩

theorem witness_PictureIsNeverRead : ∃ s t : State, step s = .next t := ⟨State.reset, goes_of (by decide)⟩

end Sys2Proof.Tests
end

section
/-!
PROOFS. What the renderer, the PPU and the devices keep of the memory blocks, and that every step keeps them canonical
(10_state.md R36 to R38).
-/

namespace Sys2Proof.Machine

/-! ### The renderer writes inside the picture -/

/-- A cell of a visible line lies in the picture. -/
theorem fbIndex_lt {ly x : Nat} (hly : ly < 144) (hx : x < 160) : fbIndex ly x < 144 * 160 := by
  unfold fbIndex
  omega

theorem Ppu.okFor_drawBackground {p : Ppu} {ly : Nat} (hly : ly < 144) (h : Cells.okFor p.fb (144 * 160)) :
    Cells.okFor (p.drawBackground ly) (144 * 160) :=
  List.foldlRecOn (motive := fun fb => Cells.okFor fb (144 * 160)) _ _ h fun _ hfb _ hx =>
    Cells.okFor_write hfb (fbIndex_lt hly (List.mem_range.mp hx)) _

/-- A sprite's pixel that is drawn is on the screen (61_ppu.md R491). -/
theorem Ppu.column_of_spriteDraws {p : Ppu} {ly k : Nat} {o : Sprite} (h : p.spriteDraws ly o k = true) :
    o.x.toNat + k - 8 < 160 := by
  simp only [Ppu.spriteDraws, Bool.and_eq_true, decide_eq_true_eq] at h
  omega

theorem Ppu.okFor_drawSpritePix {p : Ppu} {ly k : Nat} {o : Sprite} {fb : Frame} (hly : ly < 144)
    (h : Cells.okFor fb (144 * 160)) : Cells.okFor (p.drawSpritePix ly o fb k) (144 * 160) := by
  unfold Ppu.drawSpritePix
  split
  · next hd => exact Cells.okFor_write h (fbIndex_lt hly (Ppu.column_of_spriteDraws hd)) _
  · exact h

theorem Ppu.okFor_drawSprite {p : Ppu} {ly : Nat} {o : Sprite} {fb : Frame} (hly : ly < 144)
    (h : Cells.okFor fb (144 * 160)) : Cells.okFor (p.drawSprite ly fb o) (144 * 160) :=
  List.foldlRecOn (motive := fun fb => Cells.okFor fb (144 * 160)) _ _ h fun _ hfb _ _ =>
    Ppu.okFor_drawSpritePix hly hfb

/-- Rendering a line keeps the picture canonical and inside its size. -/
theorem Ppu.okFor_renderScanline {p : Ppu} (ly : Nat) (h : Cells.okFor p.fb (144 * 160)) :
    Cells.okFor (p.renderScanline ly) (144 * 160) := by
  unfold Ppu.renderScanline
  split
  · next hly =>
    have hbg := Ppu.okFor_drawBackground hly h
    dsimp only
    split
    · exact List.foldlRecOn (motive := fun fb => Cells.okFor fb (144 * 160)) _ _ hbg fun _ hfb _ _ =>
        Ppu.okFor_drawSprite hly hfb
    · exact hbg
  · exact h

/-! ### The PPU and the devices -/

theorem State.memoryOk_setLy {s : State} (h : s.memoryOk) (v : Byte) : (s.setLy v).memoryOk := by
  unfold State.setLy
  split <;> exact h

theorem State.memoryOk_render {s : State} (h : s.memoryOk) (ly : Nat) :
    State.memoryOk { s with ppu := { s.ppu with fb := s.ppu.renderScanline ly } } := by
  obtain ⟨hvram, hoam, hwram, hhram, hcram, himage, hboot, hfb, hout⟩ := h
  exact ⟨hvram, hoam, hwram, hhram, hcram, himage, hboot, Ppu.okFor_renderScanline ly hfb, hout⟩

theorem State.memoryOk_frameComplete {s : State} (h : s.memoryOk) : s.frameComplete.memoryOk := by
  obtain ⟨hvram, hoam, hwram, hhram, hcram, himage, hboot, hfb, -⟩ := h
  exact ⟨hvram, hoam, hwram, hhram, hcram, himage, hboot, hfb, hfb⟩

/-- Entering a mode leaves every memory block as it is. -/
theorem State.memoryOk_enterMode {s : State} (h : s.memoryOk) (m : BitVec 2) : (s.enterMode m).memoryOk := h

theorem State.memoryOk_leaveMode {s : State} (h : s.memoryOk) : s.leaveMode.memoryOk := by
  rcases mode_cases s.ppu.mode with hm | hm | hm | hm
  · rw [State.leaveMode_hblank hm]
    exact State.memoryOk_enterMode (State.memoryOk_setLy h _) _
  · rw [State.leaveMode_vblank hm]
    split
    · exact State.memoryOk_enterMode (State.memoryOk_frameComplete (State.memoryOk_setLy h _)) _
    · exact State.memoryOk_setLy h _
  · rw [State.leaveMode_scan hm]
    exact State.memoryOk_enterMode h _
  · rw [State.leaveMode_transfer hm]
    exact State.memoryOk_enterMode (State.memoryOk_render h _) _

theorem State.memoryOk_ppuStep {s : State} (h : s.memoryOk) (c : Nat) : (s.ppuStep c).memoryOk := by
  rw [State.ppuStep_eq]
  exact State.ppuStep_induct (P := State.memoryOk) (fun _ _ ht => State.memoryOk_leaveMode ht) h

theorem State.memoryOk_timerTick {s : State} (h : s.memoryOk) (c : Nat) : (s.timerTick c).memoryOk := by
  obtain ⟨-, hppu, hbus, hcart, henv, -⟩ := State.timerTick_frame s c
  unfold State.memoryOk
  rwa [hppu, hbus, hcart, henv]

theorem State.memoryOk_tickDevices {s : State} (h : s.memoryOk) : s.tickDevices.memoryOk := by
  unfold State.tickDevices
  split
  · exact h
  · exact State.memoryOk_ppuStep (State.memoryOk_timerTick h _) _

theorem State.memoryOk_hostTurn {s : State} (h : s.memoryOk) : s.hostTurn.memoryOk := by
  obtain ⟨-, -, hppu, hbus, hcart, hboot, -⟩ := State.hostTurn_frame s
  unfold State.memoryOk
  rwa [hppu, hbus, hcart, hboot]

/-- Settles O53: no part of a step takes a memory block out of its canonical form or its size. Bus writes are the ones
that the address decode bounds, and the renderer's cells are those of a visible line. -/
theorem memoryStaysCanonical : Obligations.MemoryStaysCanonical := fun _ _ hs h =>
  step_keeps (P := State.memoryOk) (fun _ _ hp => hp) (fun _ _ hp => hp) (fun _ _ hp => hp)
    (fun _ a v hp => State.memoryOk_busWrite hp a v) (fun _ hp => State.memoryOk_hostTurn hp)
    (fun _ hp => State.memoryOk_tickDevices hp) hs h

end Sys2Proof.Machine
end

section
/-!
PROOFS. Which parts of a step write IME: a dispatch, DI, RETI and part (a) of the CPU step (60_exceptions.md R421, R423;
46_system.md R383; 45_control.md R360), and nothing else.
-/

namespace Sys2Proof.Machine

/-- The host's turn as the statements write it out is the model's (20_memory.md R102). -/
theorem State.hostTurn_eq_afterHostTurn (s : State) : s.hostTurn = afterHostTurn s := by
  unfold State.hostTurn afterHostTurn
  cases s.env.actions with
  | nil => rfl
  | cons act later =>
    dsimp only [State.hostAct, Interrupts.requestIf]
    cases act.requestJoypad <;> rfl

/-! ### IME under the instructions -/

/-- If the result is a next state, IME is the same in it. -/
def Result.KeepsIme (r : Result) (s : State) : Prop := ∀ t, r = .next t → t.cpu.ime = s.cpu.ime

theorem keepsIme_finish {s u : State} {n : Nat} (h : u.cpu.ime = s.cpu.ime) : (finish n u).KeepsIme s := by
  rintro t ⟨rfl⟩
  exact h

theorem keepsIme_ite {s : State} {c : Prop} [Decidable c] {r r' : Result} (h : r.KeepsIme s) (h' : r'.KeepsIme s) :
    Result.KeepsIme (if c then r else r') s := by
  split <;> assumption

@[simp] theorem State.ime_push16 (s : State) (v : Word) : (s.push16 v).cpu.ime = s.cpu.ime := by
  rw [State.push16_eq]

theorem keepsIme_stop (s : State) : (stop s).KeepsIme s := by
  unfold stop
  split
  · exact keepsIme_finish rfl
  · rintro t ⟨⟩

theorem keepsIme_raiseIllegal (op : Byte) (s : State) : (raiseIllegal op s).KeepsIme s := by
  rintro t ⟨rfl⟩
  rfl

/-- DI and RETI are the only instructions that write IME. -/
theorem exec_keepsIme (i : Instr) (s : State) (hdi : i ≠ .di) (hreti : i ≠ .reti) :
    Result.KeepsIme (exec i s) s := by
  induction i using Instr.forms with
  | di => exact absurd rfl hdi
  | reti => exact absurd rfl hreti
  | stop v => exact keepsIme_stop s
  | halt => exact keepsIme_ite (keepsIme_finish rfl) (keepsIme_finish rfl)
  | illegal i op h => rw [exec_illegal i op h]; exact keepsIme_raiseIllegal op s
  | jpIf cc a => rw [exec_jpIf]; exact keepsIme_ite (keepsIme_finish rfl) (keepsIme_finish rfl)
  | jrIf cc e => rw [exec_jrIf]; exact keepsIme_ite (keepsIme_finish rfl) (keepsIme_finish rfl)
  | callIf cc a => rw [exec_callIf]; exact keepsIme_ite (keepsIme_finish (by simp)) (keepsIme_finish rfl)
  | retIf cc => rw [exec_retIf]; exact keepsIme_ite (keepsIme_finish rfl) (keepsIme_finish rfl)
  | nop | ei | ret | jpA16 | jpHl | jrE8 | daa | cpl | scf | ccf | rlca | rrca | rla | rra | ldSpHl | addSpE8
  | ldHlSpE8 | ldAAtBc | ldAAtDe | ldAAtA16 | ldhAAtC | ldhAAtA8 | ldAAtHlInc | ldAAtHlDec =>
    exact keepsIme_finish rfl
  | ldHlImm | ldAtBcA | ldAtDeA | ldAtA16A | ldhAtCA | ldhAtA8A | ldAtHlIncA | ldAtHlDecA | incAtHl | decAtHl
  | callA16 =>
    exact keepsIme_finish (by simp [State.writeHl])
  | ldAtA16Sp a => exact keepsIme_finish (by simp [State.busWrite16])
  | ldRegReg | ldRegImm | ldRegHl | ldPairImm | pop | addHl | incPair | decPair =>
    simp only [exec_ldRegReg, exec_ldRegImm, exec_ldRegHl, exec_ldPairImm, exec_pop, exec_addHl, exec_incPair,
      exec_decPair]
    exact keepsIme_finish (by simp)
  | aluReg | aluHl | aluImm | incReg | decReg =>
    simp only [exec_aluReg, exec_aluHl, exec_aluImm, exec_incReg, exec_decReg]
    exact keepsIme_finish (by simp)
  | rotReg | bitReg | bitHl | resReg | setReg =>
    simp only [exec_rotReg, exec_bitReg, exec_bitHl, exec_resReg, exec_setReg]
    exact keepsIme_finish (by simp)
  | ldHlReg | rotHl | resHl | setHl | push | rst =>
    simp only [exec_ldHlReg, exec_rotHl, exec_resHl, exec_setHl, exec_push, exec_rst]
    exact keepsIme_finish (by simp [State.writeHl])

/-! ### IME under a step -/

@[simp] theorem State.ime_wake (s : State) : s.wake.cpu.ime = s.cpu.ime := by
  unfold State.wake
  split <;> rfl

/-- The handler of an invalid opcode starts with the IME of before the step (60_exceptions.md R401), every other with
the one part (a) left. -/
theorem State.ime_handlerStart (s before : State) :
    (s.handlerStart before).cpu.ime =
      if s.fetchedInstr.invalidOpcode?.isSome then before.cpu.ime else s.cpu.ime := by
  unfold State.handlerStart
  split <;> rfl

/-- Settles O31, branch by branch of `step_next`; the devices' tick leaves the CPU alone. -/
theorem onlyTheseWriteIme : Obligations.OnlyTheseWriteIme := by
  intro s t h
  rw [← State.hostTurn_eq_afterHostTurn]
  obtain ⟨-, u, v, rfl, rfl, hv⟩ := step_next h
  obtain ⟨hcpu, -⟩ := State.tickDevices_frame v
  obtain ⟨hhost, -⟩ := State.hostTurn_frame s
  dsimp only
  rw [hcpu]
  generalize s.hostTurn.delayedEnable = u at hv ⊢
  rcases hv with ⟨hd, rfl⟩ | ⟨hd, hh, rfl⟩ | ⟨hd, hh, hexec, -⟩
  · rw [if_pos hd]
    rfl
  · rw [if_neg (by simp [hd]), if_pos hh]
    exact State.ime_wake u
  · rw [if_neg (by simp [hd]), if_neg (by simp [hh])]
    split
    · next hi => rw [hi] at hexec; cases hexec; rfl
    · next hi => rw [hi] at hexec; cases hexec; rfl
    · next hdi hreti =>
      rw [exec_keepsIme _ _ hdi hreti v hexec, State.ime_handlerStart, State.ime_wake, hhost]

end Sys2Proof.Machine
end

section
/-!
PROOFS. That every step keeps the ranges of the CPU's counters, the timer and PPU clocks, the PPU's line and mode and
the bank registers (10_state.md R28 to R38).
-/

namespace Sys2Proof.Machine

/-! ### The CPU -/

theorem State.cpuOk_delayedEnable {s : State} (h : s.cpuOk) : s.delayedEnable.cpuOk := by
  obtain ⟨hdelay, hhalt, hfatal⟩ := h
  unfold State.delayedEnable
  split
  · exact ⟨hdelay, hhalt, hfatal⟩
  · exact ⟨(Nat.sub_le _ _).trans hdelay, hhalt, hfatal⟩

theorem State.cpuOk_wake {s : State} (h : s.cpuOk) : s.wake.cpuOk := by
  obtain ⟨hdelay, hhalt, hfatal⟩ := h
  unfold State.wake
  split
  · exact ⟨hdelay, hhalt, hfatal⟩
  · exact ⟨hdelay, fun hboth => absurd hboth.1 Bool.false_ne_true, hfatal⟩

/-- A dispatch ends the halt first, so a pending halt bug stays alone (92_eei_decisions.md D8). -/
theorem State.cpuOk_takeInterrupt {s : State} (h : s.cpuOk) (n : Nat) : (s.takeInterrupt n).cpuOk := by
  obtain ⟨-, hhalt, hfatal⟩ := h
  unfold State.takeInterrupt
  rw [State.push16_eq]
  exact ⟨Nat.zero_le _, hhalt, hfatal⟩

/-- An instruction that starts with neither halt bit leaves at most one of them. -/
theorem ExecEffect.cpuOk {s v : State} (he : ExecEffect s v) (h : s.cpuOk) (hhalted : s.cpu.halted = false)
    (hbug : s.cpu.haltBug = false) : v.cpuOk := by
  obtain ⟨hdelay, -, hfatal⟩ := h
  refine ⟨?_, ?_, ?_⟩
  · rcases he.delay with hd | hd | hd <;> omega
  · rintro ⟨hvh, hvb⟩
    rcases he.halt with ⟨hh, -⟩ | ⟨hh, -⟩ | ⟨-, hb⟩
    · cases hvh.symm.trans (hh.trans hhalted)
    · cases hvh.symm.trans (hh.trans hhalted)
    · cases hvb.symm.trans (hb.trans hbug)
  · rcases he.ends with ⟨hf, hop, -⟩ | ⟨hf, hop, -⟩
    · rw [hf, hop, hfatal]
    · rw [hf, hop]

/-- An instruction that a CPU which is not halted fetches keeps the CPU's ranges. An invalid opcode puts the halt bits
back to those of before the step (60_exceptions.md R401). -/
theorem State.cpuOk_exec {s before v : State} (h : s.cpuOk) (hbefore : before.cpuOk) (hhalted : s.cpu.halted = false)
    (hexec : exec s.fetchedInstr (s.handlerStart before) = .next v) (he : ExecEffect (s.handlerStart before) v) :
    v.cpuOk := by
  obtain ⟨hdelay, -, hfatal⟩ := h
  cases hop : s.fetchedInstr.invalidOpcode? with
  | none =>
    rw [State.handlerStart_valid hop] at he
    exact he.cpuOk ⟨hdelay, fun hboth => absurd hboth.2 Bool.false_ne_true, hfatal⟩ hhalted rfl
  | some op =>
    rw [State.handlerStart_invalid hop, exec_illegal _ _ hop] at hexec
    cases hexec
    exact ⟨hdelay, hbefore.2.1, rfl⟩

theorem step_keeps_cpuOk {s t : State} (hs : s.cpuOk) (h : step s = .next t) : t.cpuOk := by
  obtain ⟨-, u, v, rfl, rfl, hv⟩ := step_next h
  have hhost : s.hostTurn.cpuOk := by
    unfold State.cpuOk
    rwa [(State.hostTurn_frame s).1]
  have hwake := State.cpuOk_wake (State.cpuOk_delayedEnable hhost)
  have hvok : v.cpuOk := by
    rcases hv with ⟨-, rfl⟩ | ⟨-, -, rfl⟩ | ⟨-, hh, hexec, he⟩
    · exact State.cpuOk_takeInterrupt hwake _
    · exact hwake
    · exact State.cpuOk_exec hwake hhost hh hexec he
  unfold State.cpuOk
  rwa [(State.tickDevices_frame v).1]

/-! ### The cartridge -/

theorem romBankOf_ne_zero (mask v : Byte) : romBankOf mask v ≠ 0 := by
  unfold romBankOf
  dsimp only
  split
  · decide
  · assumption

theorem romBankOf_type1_lt (v : Byte) : (romBankOf 0x1F v).toNat < 32 := by
  revert v
  decide

theorem secReg_type1_lt (v : Byte) : (v &&& 0x03).toNat < 4 := by
  revert v
  decide

theorem State.cartOk_writeRom {s : State} (h : s.cartOk) (a : Nat) (v : Byte) :
    State.cartOk { s with cart := s.cart.writeRom s.env.rtcNow a v } := by
  obtain ⟨hbank, htype1, hbase⟩ := h
  unfold Cart.writeRom
  split
  · exact ⟨hbank, htype1, hbase⟩
  · next hvar =>
    obtain ⟨hb, hs⟩ := htype1 hvar
    unfold Cart.writeType1
    split_ifs
    · exact ⟨hbank, htype1, hbase⟩
    · exact ⟨romBankOf_ne_zero _ _, fun _ => ⟨romBankOf_type1_lt v, hs⟩, hbase⟩
    · exact ⟨hbank, fun _ => ⟨hb, secReg_type1_lt v⟩, hbase⟩
    · exact ⟨hbank, htype1, hbase⟩
  · next hvar =>
    have hnot : ¬s.cart.variant = .type1 := by rw [hvar]; decide
    unfold Cart.writeType3 Cart.writeLatch Cart.latchRtc
    dsimp only
    split_ifs
    · exact ⟨hbank, htype1, hbase⟩
    · exact ⟨romBankOf_ne_zero _ _, fun hc => absurd hc hnot, hbase⟩
    · exact ⟨hbank, fun hc => absurd hc hnot, hbase⟩
    all_goals exact ⟨hbank, htype1, hbase⟩

theorem State.cartOk_writeExt {s : State} (h : s.cartOk) (i : Nat) (v : Byte) :
    State.cartOk { s with cart := s.cart.writeExt s.env.rtcNow i v } := by
  obtain ⟨hbank, htype1, hbase⟩ := h
  unfold Cart.writeExt
  split
  · exact ⟨hbank, htype1, hbase⟩
  · exact ⟨hbank, htype1, hbase⟩
  · refine ⟨hbank, htype1, ?_⟩
    unfold Cart.writeClock
    dsimp only
    split
    · exact le_rfl
    · exact hbase

theorem State.cartOk_busWrite {s : State} (h : s.cartOk) (a : Word) (v : Byte) : (s.busWrite a v).cartOk := by
  unfold State.busWrite
  cases target a with
  | rom i => exact State.cartOk_writeRom h i v
  | ext i => exact State.cartOk_writeExt h i v
  | io r =>
    obtain ⟨-, henv, hcart, -⟩ := State.ioWrite_frame s r v
    show (s.ioWrite r v).cartOk
    unfold State.cartOk
    rwa [hcart, henv]
  | _ => exact h

theorem State.cartOk_hostTurn {s : State} (h : s.cartOk) : s.hostTurn.cartOk := by
  obtain ⟨-, -, -, -, hcart, -, -, hnow⟩ := State.hostTurn_frame s
  obtain ⟨hbank, htype1, hbase⟩ := h
  unfold State.cartOk
  rw [hcart]
  exact ⟨hbank, htype1, hbase.trans hnow⟩

theorem State.cartOk_tickDevices {s : State} (h : s.cartOk) : s.tickDevices.cartOk := by
  obtain ⟨-, -, hcart, henv, -⟩ := State.tickDevices_frame s
  unfold State.cartOk
  rwa [hcart, henv]

theorem step_keeps_cartOk {s t : State} (hs : s.cartOk) (h : step s = .next t) : t.cartOk :=
  step_keeps (P := State.cartOk) (fun _ _ hp => hp) (fun _ _ hp => hp) (fun _ _ hp => hp)
    (fun _ a v hp => State.cartOk_busWrite hp a v) (fun _ hp => State.cartOk_hostTurn hp)
    (fun _ hp => State.cartOk_tickDevices hp) hs h

/-! ### The PPU -/

/-- A write to STAT leaves the mode bits alone (20_memory.md R87). -/
theorem Ppu.mode_writeStat (p : Ppu) (v : Byte) : (p.writeStat v).mode = p.mode := by
  have keep : (7 : Byte).setWidth 2 = BitVec.allOnes 2 := by decide
  have drop : (0xF8 : Byte).setWidth 2 = 0#2 := by decide
  simp only [Ppu.mode, Ppu.writeStat, BitVec.setWidth_or, BitVec.setWidth_and, keep, drop, BitVec.and_allOnes,
    BitVec.and_zero, BitVec.zero_or]

theorem State.ppuOk_busWrite {s : State} (h : s.ppuOk) (a : Word) (v : Byte) : (s.busWrite a v).ppuOk := by
  unfold State.busWrite
  cases target a with
  | io r =>
    cases r with
    | stat =>
      show State.ppuOk { s with ppu := s.ppu.writeStat v }
      unfold State.ppuOk
      dsimp only
      rw [Ppu.mode_writeStat]
      exact h
    | dma =>
      show (State.oamDma { s with ppu := { s.ppu with dma := v } } v).ppuOk
      rw [State.oamDma_eq]
      exact h
    | _ => exact h
  | _ => exact h

/-- LY is a line of the frame, and the mode is V-blank exactly on the lines from 144 on (61_ppu.md R460, R461). -/
def State.lineOk (s : State) : Prop := s.ppu.ly.toNat ≤ 153 ∧ (s.ppu.mode = 1 ↔ 144 ≤ s.ppu.ly.toNat)

/-- The LYC flag is not a mode bit (61_ppu.md R473). -/
theorem State.setLy_mode (s : State) (v : Byte) : (s.setLy v).ppu.mode = s.ppu.mode := by
  have hset : ∀ b : Byte, (b ||| 0x04).setWidth 2 = b.setWidth 2 := by decide
  have hclear : ∀ b : Byte, (b &&& 0xFB).setWidth 2 = b.setWidth 2 := by decide
  unfold State.setLy
  split
  · exact hset _
  · exact hclear _

theorem State.lineOk_enterMode {s : State} {m : BitVec 2} (hly : s.ppu.ly.toNat ≤ 153)
    (hm : m = 1 ↔ 144 ≤ s.ppu.ly.toNat) : (s.enterMode m).lineOk :=
  ⟨hly, by rw [State.enterMode_mode]; exact hm⟩

theorem ly_succ_toNat {ly : Byte} (h : ly.toNat ≤ 153) : (ly + 1).toNat = ly.toNat + 1 := by
  bv_omega

/-- Leaving a mode goes to the mode that the line calls for (61_ppu.md R470 to R475). -/
theorem State.lineOk_leaveMode {s : State} (h : s.lineOk) : s.leaveMode.lineOk := by
  obtain ⟨hly, hvblank⟩ := h
  have hsucc := ly_succ_toNat hly
  rcases mode_cases s.ppu.mode with hm | hm | hm | hm
  · have hvisible : ¬144 ≤ s.ppu.ly.toNat := fun hge => absurd (hm.symm.trans (hvblank.mpr hge)) (by decide)
    rw [State.leaveMode_hblank hm]
    apply State.lineOk_enterMode <;> rw [State.setLy_ly, hsucc]
    · omega
    · split
      · next hlast =>
        have : s.ppu.ly.toNat + 1 = 144 := hsucc.symm.trans (congrArg BitVec.toNat hlast)
        exact iff_of_true rfl this.ge
      · next hlast =>
        have : s.ppu.ly.toNat + 1 ≠ 144 := fun heq => hlast (BitVec.eq_of_toNat_eq (hsucc.trans heq))
        exact iff_of_false (by decide) (by omega)
  · have hge := hvblank.mp hm
    rw [State.leaveMode_vblank hm]
    split
    · apply State.lineOk_enterMode <;> rw [State.frameComplete_ppu] <;> simp
    · next hlast =>
      have : s.ppu.ly.toNat ≠ 153 := fun heq => hlast (BitVec.eq_of_toNat_eq heq)
      unfold State.lineOk
      rw [State.setLy_ly, State.setLy_mode, hsucc]
      exact ⟨by omega, iff_of_true hm (by omega)⟩
  · rw [State.leaveMode_scan hm]
    rw [hm] at hvblank
    exact State.lineOk_enterMode hly ((iff_of_false (by decide) (by decide)).trans hvblank)
  · rw [State.leaveMode_transfer hm]
    rw [hm] at hvblank
    exact State.lineOk_enterMode hly ((iff_of_false (by decide) (by decide)).trans hvblank)

/-- The loop ends with the clock below the mode's length: as long as it is not, there is another turn (61_ppu.md
R477). -/
theorem State.modeClock_ppuStep_lt (s : State) :
    (s.ppuStep 0).ppu.modeClock < modeLength (s.ppuStep 0).ppu.mode := by
  induction hn : s.ppu.modeClock using Nat.strong_induction_on generalizing s with
  | _ n ih =>
    by_cases hturn : modeLength s.ppu.mode ≤ s.ppu.modeClock
    · have := modeLength_ge s.ppu.mode
      rw [State.ppuStep_turn hturn]
      exact ih _ (by omega) s.ppuTurn (State.ppuTurn_modeClock s)
    · rw [State.ppuStep_stop (by omega)]
      omega

theorem State.ppuOk_ppuStep {s : State} (h : s.lineOk) (c : Nat) : (s.ppuStep c).ppuOk := by
  rw [State.ppuStep_eq]
  obtain ⟨hly, hvblank⟩ :=
    State.ppuStep_induct (P := State.lineOk) (fun _ _ ht => State.lineOk_leaveMode ht)
      (s := s.withClock (s.ppu.modeClock + c)) h
  exact ⟨hly, hvblank, State.modeClock_ppuStep_lt _⟩

theorem State.ppuOk_hostTurn {s : State} (h : s.ppuOk) : s.hostTurn.ppuOk := by
  unfold State.ppuOk
  rwa [(State.hostTurn_frame s).2.2.1]

theorem State.ppuOk_tickDevices {s : State} (h : s.ppuOk) : s.tickDevices.ppuOk := by
  obtain ⟨hly, hvblank, hclock⟩ := h
  unfold State.tickDevices
  split
  · exact ⟨hly, hvblank, hclock⟩
  · next c _ =>
    apply State.ppuOk_ppuStep
    unfold State.lineOk
    rw [(State.timerTick_frame s c).2.1]
    exact ⟨hly, hvblank⟩

theorem step_keeps_ppuOk {s t : State} (hs : s.ppuOk) (h : step s = .next t) : t.ppuOk :=
  step_keeps (P := State.ppuOk) (fun _ _ hp => hp) (fun _ _ hp => hp) (fun _ _ hp => hp)
    (fun _ a v hp => State.ppuOk_busWrite hp a v) (fun _ hp => State.ppuOk_hostTurn hp)
    (fun _ hp => State.ppuOk_tickDevices hp) hs h

/-! ### The clocks -/

/-- A step that counted its cycles counted a multiple of 4 (60_exceptions.md R432). -/
def State.cyclesOk (s : State) : Prop := ∀ c, s.cycles = some c → c % 4 = 0

theorem ExecEffect.cyclesOk {s v : State} (he : ExecEffect s v) : v.cyclesOk := by
  intro c hc
  rcases he.ends with ⟨-, -, n, -, -, hn⟩ | ⟨-, -, hn⟩
  · cases hn.symm.trans hc
    omega
  · cases hn.symm.trans hc

theorem State.wake_delayedEnable_eq (s : State) :
    s.delayedEnable.wake = { s with cpu := s.delayedEnable.wake.cpu } := by
  unfold State.wake State.delayedEnable
  split_ifs <;> rfl

/-- What a step has done when the devices tick: outside the CPU, IF and IE and the cycle count there are bus writes
after the host's turn, and the tick is by a multiple of 4 cycles. -/
theorem step_before_tick {s t : State} (h : step s = .next t) :
    ∃ (v : State) (l : List (Word × Byte)), t = v.tickDevices ∧ v.cyclesOk ∧
      v = { s.hostTurn.busWrites l with cpu := v.cpu, ic := v.ic, cycles := v.cycles } := by
  obtain ⟨-, u, v, rfl, rfl, hv⟩ := step_next h
  have hwake := State.wake_delayedEnable_eq s.hostTurn
  rcases hv with ⟨-, rfl⟩ | ⟨-, -, rfl⟩ | ⟨-, -, -, he⟩
  · refine ⟨_, pushWrites s.hostTurn.delayedEnable.wake.cpu.sp s.hostTurn.delayedEnable.wake.cpu.pc, rfl, ?_, ?_⟩
    · rintro c ⟨rfl⟩
      rfl
    · unfold State.takeInterrupt
      rw [State.push16_eq, hwake, State.busWrites_cpu]
  · refine ⟨_, [], rfl, ?_, ?_⟩
    · rintro c ⟨rfl⟩
      rfl
    · rw [hwake, State.busWrites_nil]
  · obtain ⟨l, hl⟩ := he.outside
    refine ⟨v, l, rfl, he.cyclesOk, ?_⟩
    rw [State.handlerStart_eq, State.busWrites_cpu, hwake, State.busWrites_cpu] at hl
    rw [hl]

/-- Counting keeps a clock in multiples of 4 (60_exceptions.md R432); the counter wraps at a multiple of 4. -/
theorem Word.add_mod_four {w : Word} {c : Nat} (hw : w.toNat % 4 = 0) (hc : c % 4 = 0) :
    (w + BitVec.ofNat 16 c).toNat % 4 = 0 := by
  rw [BitVec.toNat_add, BitVec.toNat_ofNat]
  omega

/-- `TimaInc` keeps the counter and arms a reload of at most 4 cycles (60_exceptions.md R434). -/
theorem Timer.reloadDelay_timaInc {t : Timer} (h : t.reloadDelay ≤ 4) : t.timaInc.reloadDelay ≤ 4 := by
  unfold Timer.timaInc
  split
  · exact le_rfl
  · exact h

theorem Timer.reloadDelay_writeDiv {t : Timer} (h : t.reloadDelay ≤ 4) : t.writeDiv.reloadDelay ≤ 4 := by
  unfold Timer.writeDiv
  dsimp only
  split
  · exact Timer.reloadDelay_timaInc h
  · exact h

theorem Timer.reloadDelay_edge {t : Timer} (h : t.reloadDelay ≤ 4) (old : Word) : (t.edge old).reloadDelay ≤ 4 := by
  unfold Timer.edge
  split
  · exact Timer.reloadDelay_timaInc h
  · exact h

theorem State.reloadDelay_timerTick {s : State} (h : s.timer.reloadDelay ≤ 4) (c : Nat) :
    (s.timerTick c).timer.reloadDelay ≤ 4 := by
  apply Timer.reloadDelay_edge
  rw [Timer.reload_eq]
  exact (Nat.sub_le _ _).trans h

theorem State.clocksOk_busWrite {s : State} (h : s.clocksOk) (a : Word) (v : Byte) : (s.busWrite a v).clocksOk := by
  unfold State.busWrite
  cases target a with
  | io r =>
    cases r with
    | div =>
      obtain ⟨-, hreload, hclock⟩ := h
      exact ⟨rfl, Timer.reloadDelay_writeDiv hreload, hclock⟩
    | dma =>
      show (State.oamDma { s with ppu := { s.ppu with dma := v } } v).clocksOk
      rw [State.oamDma_eq]
      exact h
    | _ => exact h
  | _ => exact h

theorem State.clocksOk_hostTurn {s : State} (h : s.clocksOk) : s.hostTurn.clocksOk := by
  obtain ⟨-, htimer, hppu, -⟩ := State.hostTurn_frame s
  unfold State.clocksOk
  rwa [htimer, hppu]

theorem modeLength_mod_four (m : BitVec 2) : modeLength m % 4 = 0 := by
  rcases mode_cases m with rfl | rfl | rfl | rfl <;> rfl

theorem State.modeClock_ppuStep_mod_four {s : State} {c : Nat} (h : s.ppu.modeClock % 4 = 0) (hc : c % 4 = 0) :
    (s.ppuStep c).ppu.modeClock % 4 = 0 := by
  rw [State.ppuStep_eq]
  refine State.ppuStep_induct (P := fun t => t.ppu.modeClock % 4 = 0) ?_ (by rw [State.modeClock_withClock]; omega)
  intro t hle ht
  have := modeLength_mod_four t.ppu.mode
  rw [State.ppuTurn_modeClock]
  omega

theorem State.clocksOk_tickDevices {s : State} (h : s.clocksOk) (hcycles : s.cyclesOk) : s.tickDevices.clocksOk := by
  obtain ⟨hcounter, hreload, hclock⟩ := h
  unfold State.tickDevices
  split
  · exact ⟨hcounter, hreload, hclock⟩
  · next c hc =>
    have hfour := hcycles c hc
    unfold State.clocksOk
    rw [(State.ppuStep_frame (s.timerTick c) c).2.1, State.sysctr_timerTick]
    refine ⟨Word.add_mod_four hcounter hfour, State.reloadDelay_timerTick hreload c, ?_⟩
    apply State.modeClock_ppuStep_mod_four _ hfour
    rwa [(State.timerTick_frame s c).2.1]

theorem step_keeps_clocksOk {s t : State} (hs : s.clocksOk) (h : step s = .next t) : t.clocksOk := by
  obtain ⟨v, l, rfl, hcycles, hv⟩ := step_before_tick h
  have hwrites : (s.hostTurn.busWrites l).clocksOk :=
    State.busWrites_induct (P := State.clocksOk) (fun _ a w hp => State.clocksOk_busWrite hp a w)
      (State.clocksOk_hostTurn hs) l
  apply State.clocksOk_tickDevices _ hcycles
  rw [hv]
  exact hwrites

/-- Settles O54, range by range. -/
theorem countersStayInRange : Obligations.CountersStayInRange := fun _ _ hcpu hclocks hppu hcart h =>
  ⟨step_keeps_cpuOk hcpu h, step_keeps_clocksOk hclocks h, step_keeps_ppuOk hppu h, step_keeps_cartOk hcart h⟩

end Sys2Proof.Machine
end

section
/-!
PROOFS. The register file (10_state.md R22, R23), and what power-on gives (10_state.md R41, R42;
70_reset_and_hazards.md R521).
-/

namespace Sys2Proof.Machine

/-! ### The flag register and the registers -/

/-- F shows Z, N, H, C in bits 7 to 4 and zero below (10_state.md R23). -/
theorem Flags.toByte_bits (f : Flags) :
    f.toByte.getLsbD 7 = f.z ∧ f.toByte.getLsbD 6 = f.n ∧ f.toByte.getLsbD 5 = f.h ∧ f.toByte.getLsbD 4 = f.c ∧
      f.toByte &&& 0x0F = 0 := by
  obtain ⟨z, n, h, c⟩ := f
  revert z n h c
  decide

/-- A byte loaded into F is masked to its top nibble (10_state.md R22). -/
theorem Flags.toByte_ofByte (v : Byte) : (Flags.ofByte v).toByte = v &&& 0xF0 := by
  revert v
  decide

theorem Cpu.reg_setReg (k : Cpu) (r q : Reg8) (v : Byte) : (k.setReg r v).reg q = if q = r then v else k.reg q := by
  cases r <;> cases q <;> rfl

/-- Writing a register leaves everything but the seven registers as it is. -/
theorem Cpu.setReg_eq_regs (k : Cpu) (r : Reg8) (v : Byte) :
    k.setReg r v =
      { k with
        a := (k.setReg r v).reg .a, b := (k.setReg r v).reg .b, c := (k.setReg r v).reg .c
        d := (k.setReg r v).reg .d, e := (k.setReg r v).reg .e, h := (k.setReg r v).reg .h
        l := (k.setReg r v).reg .l } := by
  cases r <;> rfl

/-- Settles O4. -/
theorem registerFile : Obligations.RegisterFile :=
  ⟨fun k v => ⟨rfl, rfl, rfl, rfl, rfl, rfl, rfl, rfl, Flags.toByte_ofByte v.lo, rfl, Flags.toByte_bits k.f⟩,
    fun k r q v => ⟨Cpu.reg_setReg k r q v, Cpu.setReg_eq_regs k r v, rfl, rfl, rfl, rfl, rfl, rfl, rfl⟩⟩

/-! ### Power-on, said once -/

/-- A loaded cartridge is that of reset with the image and what its header and the host's clock give. -/
theorem loadCart_ok {image : List Byte} {now : Nat} {cart : Cart} (h : loadCart image now = .ok cart) :
    ∃ (v : Variant) (clock : Bool) (banks size : Nat),
      cart =
        { State.reset.cart with
          image := Cells.ofList 0 image, imageSize := image.length, variant := v, hasRtc := clock
          romBanks := banks, ramSize := size, rtcBase := now } := by
  unfold loadCart at h
  split at h
  · cases h
  · dsimp only at h
    split at h
    · cases h
    · cases h
    · cases h
    · next v clock banks size _ _ _ =>
      cases h
      exact ⟨v, clock, banks, size, rfl⟩

/-- Power-on gives profile POST-BOOT of the loaded cartridge, with profile BOOT laid over it if there is a boot
image. -/
theorem powerOn_ok {p : Launch} {s : State} (h : powerOn p = .ok s) :
    ∃ cart, loadCart p.cartImage p.rtcNow = .ok cart ∧
      ((p.bootImage = none ∧ s = p.postBoot cart) ∨
        ∃ image, p.bootImage = some image ∧ image.length = 0x100 ∧ s = (p.postBoot cart).bootProfile image) := by
  unfold powerOn at h
  split at h
  · cases h
  · next cart hcart =>
    refine ⟨cart, hcart, ?_⟩
    split at h
    · next hboot =>
      cases h
      exact .inl ⟨hboot, rfl⟩
    · next image hboot =>
      split at h
      · next hlength =>
        cases h
        exact .inr ⟨image, hboot, hlength, rfl⟩
      · cases h

/-! ### The invariants -/

/-- A list of at most `n` values is a block of size `n`. -/
theorem Cells.okFor_ofList {w n : Nat} {l : List (BitVec w)} (h : l.length ≤ n) :
    Cells.okFor (Cells.ofList 0 l) n := by
  obtain ⟨hwf, hbounds⟩ := Cells.wf_ofList l 0
  refine ⟨hwf, fun q hq => ?_⟩
  obtain ⟨-, hlt⟩ := hbounds q hq
  omega

theorem Cells.okFor_ofList_take {w : Nat} (l : List (BitVec w)) (n : Nat) :
    Cells.okFor (Cells.ofList 0 (l.take n)) n := Cells.okFor_ofList (List.length_take_le n l)

theorem State.memoryOk_initRam {s : State} (h : s.memoryOk) (ram : RamInit) : (s.initRam ram).memoryOk := by
  cases ram with
  | zero => exact h
  | any vram oam wram hram cram fb =>
    obtain ⟨-, -, -, -, -, himage, hboot, -, -⟩ := h
    exact ⟨Cells.okFor_ofList_take _ _, Cells.okFor_ofList_take _ _, Cells.okFor_ofList_take _ _,
      Cells.okFor_ofList_take _ _, Cells.okFor_ofList_take _ _, himage, hboot, Cells.okFor_ofList_take _ _,
      Cells.okFor_ofList_take _ _⟩

/-- RAM_INIT sets the memories and the pictures and nothing else (10_state.md R42). -/
theorem State.initRam_eq (s : State) (ram : RamInit) :
    s.initRam ram =
      { s with
        ppu :=
          { s.ppu with
            vram := (s.initRam ram).ppu.vram, oam := (s.initRam ram).ppu.oam
            fb := (s.initRam ram).ppu.fb, frameOut := (s.initRam ram).ppu.frameOut }
        bus := { s.bus with wram := (s.initRam ram).bus.wram, hram := (s.initRam ram).bus.hram }
        cart := { s.cart with cram := (s.initRam ram).cart.cram } } := by
  cases ram <;> rfl

/-- The state that profile POST-BOOT starts from, before RAM_INIT. -/
def Launch.postBootZero (p : Launch) (cart : Cart) : State :=
  { State.reset with
    cart := cart
    env := { bootImage := [], stop := p.stop, joypad := p.joypad, rtcNow := p.rtcNow, actions := p.actions } }

theorem Launch.postBoot_eq (p : Launch) (cart : Cart) : p.postBoot cart = (p.postBootZero cart).initRam p.ram := rfl

/-- All five invariants at once. -/
def State.invariantsHold (s : State) : Prop := s.memoryOk ∧ s.cpuOk ∧ s.clocksOk ∧ s.ppuOk ∧ s.cartOk

theorem State.invariantsHold_reset : State.reset.invariantsHold :=
  ⟨State.memoryOk_reset, by decide, by decide, by decide, by decide⟩

/-- A loaded cartridge brings a canonical image, and its bank registers are those of reset. -/
theorem Launch.invariantsHold_postBootZero {p : Launch} {cart : Cart} (h : loadCart p.cartImage p.rtcNow = .ok cart) :
    (p.postBootZero cart).invariantsHold := by
  obtain ⟨v, clock, banks, size, rfl⟩ := loadCart_ok h
  obtain ⟨⟨hvram, hoam, hwram, hhram, -, -, hboot, hfb, hout⟩, hcpu, hclocks, hppu, hbank, -⟩ :=
    State.invariantsHold_reset
  have hbits : State.reset.cart.romBankReg.toNat < 32 ∧ State.reset.cart.secReg.toNat < 4 := by decide
  exact ⟨⟨hvram, hoam, hwram, hhram, ⟨Cells.wf_nil, nofun⟩, Cells.okFor_ofList le_rfl, hboot, hfb, hout⟩, hcpu,
    hclocks, hppu, hbank, fun _ => hbits, le_rfl⟩

theorem State.invariantsHold_initRam {s : State} (h : s.invariantsHold) (ram : RamInit) :
    (s.initRam ram).invariantsHold := by
  obtain ⟨hmemory, hcpu, hclocks, hppu, hcart⟩ := h
  refine ⟨State.memoryOk_initRam hmemory ram, ?_⟩
  rw [State.initRam_eq]
  exact ⟨hcpu, hclocks, hppu, hcart⟩

theorem State.invariantsHold_bootProfile {s : State} (h : s.invariantsHold) {image : List Byte}
    (hlength : image.length = 0x100) : (s.bootProfile image).invariantsHold := by
  obtain ⟨⟨hvram, hoam, hwram, hhram, hcram, himage, -, hfb, hout⟩, -, hclocks, hppu, hcart⟩ := h
  have hcpu : State.cpuOk { s with cpu := bootCpu } :=
    ⟨Nat.zero_le 2, fun hboth => absurd hboth.1 Bool.false_ne_true, rfl⟩
  exact ⟨⟨hvram, hoam, hwram, hhram, hcram, himage, Cells.okFor_ofList hlength.le, hfb, hout⟩, hcpu, hclocks, hppu,
    hcart⟩

/-- Settles O55: RAM_INIT and the images are written in canonical form, and the registers of both profiles are in range. -/
theorem invariantsHoldAtReset : Obligations.InvariantsHoldAtReset := by
  refine ⟨State.invariantsHold_reset, fun p s h => ?_⟩
  obtain ⟨cart, hcart, ⟨-, rfl⟩ | ⟨image, -, hlength, rfl⟩⟩ := powerOn_ok h
  · exact State.invariantsHold_initRam (Launch.invariantsHold_postBootZero hcart) p.ram
  · exact State.invariantsHold_bootProfile
      (State.invariantsHold_initRam (Launch.invariantsHold_postBootZero hcart) p.ram) hlength

/-! ### The reset profiles -/

/-- An image of zeros is the blank type-0 cartridge: two banks, no RAM (21_cartridge.md R111 to R113). -/
theorem loadCart_blank (now : Nat) {n : Nat} (hn : 0x150 ≤ n) :
    loadCart (List.replicate n 0) now = .ok { State.reset.cart with imageSize := n, rtcBase := now } := by
  have hzero : ∀ k, (List.replicate n (0 : Byte)).getD k 0 = 0 := fun k => by
    rw [List.getD_eq_getElem?_getD, List.getElem?_replicate]
    split <;> rfl
  have hvariant : variantOf 0 = some (.type0, false) := rfl
  have hbanks : romBanksOf 0 = some 2 := rfl
  have hsize : ramSizeOf 0 = some 0 := rfl
  unfold loadCart
  rw [if_neg (by rw [List.length_replicate]; omega)]
  simp only [hzero, hvariant, hbanks, hsize, Cells.ofList_replicate, List.length_replicate]
  rfl

/-- The default parameters with the blank cartridge give the reset state. -/
theorem powerOn_default : powerOn Launch.default = .ok State.reset := by
  have hcart : loadCart Launch.default.cartImage Launch.default.rtcNow = .ok State.reset.cart :=
    loadCart_blank 0 (by decide)
  unfold powerOn
  rw [hcart]
  rfl

/-- RAM_INIT = zero leaves nothing listed. -/
theorem Launch.postBoot_ram_zero {p : Launch} {cart : Cart} (hcart : loadCart p.cartImage p.rtcNow = .ok cart)
    (hram : p.ram = .zero) :
    (p.postBoot cart).ppu.vram = [] ∧ (p.postBoot cart).ppu.oam = [] ∧ (p.postBoot cart).bus.wram = [] ∧
      (p.postBoot cart).bus.hram = [] ∧ (p.postBoot cart).cart.cram = [] ∧ (p.postBoot cart).ppu.fb = [] := by
  obtain ⟨v, clock, banks, size, rfl⟩ := loadCart_ok hcart
  rw [Launch.postBoot_eq, hram]
  exact ⟨rfl, rfl, rfl, rfl, rfl, rfl⟩

/-- The registers of profile POST-BOOT (10_state.md R41). -/
theorem resetCpu_registers :
    let k := State.reset.cpu
    k.a = 0x01 ∧ k.f.toByte = 0xB0 ∧ k.bc = 0x0013 ∧ k.de = 0x00D8 ∧ k.hl = 0x014D ∧ k.sp = 0xFFFE ∧
      k.pc = 0x0100 := by
  decide

/-- The registers of profile BOOT (10_state.md R41). -/
theorem bootCpu_registers :
    let k := bootCpu
    k.a = 0 ∧ k.f.toByte = 0 ∧ k.bc = 0 ∧ k.de = 0 ∧ k.hl = 0 ∧ k.sp = 0 ∧ k.pc = 0 := by
  decide

/-- Settles O59: RAM_INIT touches no register, and the boot profile only those in which the two profiles differ. -/
theorem resetProfiles : Obligations.ResetProfiles := by
  refine ⟨powerOn_default, fun p s h => ?_⟩
  obtain ⟨cart, hcart, hprofile⟩ := powerOn_ok h
  have hzero := Launch.postBoot_ram_zero hcart
  obtain ⟨v, clock, banks, size, rfl⟩ := loadCart_ok hcart
  rw [Launch.postBoot_eq, State.initRam_eq] at hprofile
  obtain ⟨ra, rf, rbc, rde, rhl, rsp, rpc⟩ := resetCpu_registers
  obtain ⟨ba, bf, bbc, bde, bhl, bsp, bpc⟩ := bootCpu_registers
  rcases hprofile with ⟨hboot, rfl⟩ | ⟨image, hboot, -, rfl⟩ <;>
    refine ⟨rfl, rfl, rfl, rfl, rfl, rfl, rfl, rfl, rfl, rfl, rfl, rfl, rfl, rfl, rfl, rfl, rfl, rfl, rfl, rfl, rfl, rfl,
      rfl, rfl, rfl, rfl, rfl, rfl, rfl, rfl, ?_, ?_, hzero⟩
  · exact fun _ => ⟨ra, rf, rbc, rde, rhl, rsp, rpc, rfl, rfl, rfl⟩
  · exact fun hsome => absurd hboot hsome
  · exact fun hnone => absurd (hboot.symm.trans hnone) nofun
  · exact fun _ => ⟨ba, bf, bbc, bde, bhl, bsp, bpc, rfl, rfl, rfl⟩

end Sys2Proof.Machine
end

section
/-!
PROOFS. The picture is output only: no read returns the framebuffer, the published frame or the frame count, so a step
takes no different course when they differ (20_memory.md R93; 61_ppu.md R480, R505, R508).
-/

namespace Sys2Proof.Machine

/-! ### Another picture in the same machine -/

/-- The machine with another framebuffer, published frame and frame count. -/
def State.repaint (s : State) (fb out : Frame) (n : Nat) : State :=
  { s with ppu := { s.ppu with fb := fb, frameOut := out, frames := n } }

/-- Two machines that differ in nothing but the picture. -/
def State.Repainted (s t : State) : Prop := ∃ (fb out : Frame) (n : Nat), t = s.repaint fb out n

/-- A tick of the timer in one expression: the timer, and IF when the reload is due (60_exceptions.md R432, R433). -/
theorem State.timerTick_eq (s : State) (c : Nat) :
    s.timerTick c =
      let reloaded := Timer.reload { s.timer with sysctr := s.timer.sysctr + BitVec.ofNat 16 c } c
      { s with timer := reloaded.1.edge s.timer.sysctr, ic := s.ic.requestIf reloaded.2 2 } := by
  unfold State.timerTick Interrupts.requestIf
  dsimp only
  split <;> rfl

section
variable (s : State) (fb out : Frame) (n : Nat)

/-! ### The bus -/

@[simp] theorem State.cpu_repaint : (s.repaint fb out n).cpu = s.cpu := rfl

/-- No read returns the picture (20_memory.md R93). -/
@[simp] theorem State.busRead_repaint (a : Word) : (s.repaint fb out n).busRead a = s.busRead a := rfl

theorem State.dmaByte_repaint (v : Byte) (i : Nat) :
    State.dmaByte v (s.repaint fb out n) i = (State.dmaByte v s i).repaint fb out n := by
  unfold State.dmaByte
  rw [State.busRead_repaint]
  rfl

theorem State.dmaFold_repaint (v : Byte) (l : List Nat) :
    l.foldl (State.dmaByte v) (s.repaint fb out n) = (l.foldl (State.dmaByte v) s).repaint fb out n := by
  induction l generalizing s with
  | nil => rfl
  | cons i l ih => rw [List.foldl_cons, State.dmaByte_repaint, ih, List.foldl_cons]

@[simp] theorem State.busWrite_repaint (a : Word) (v : Byte) :
    (s.repaint fb out n).busWrite a v = (s.busWrite a v).repaint fb out n := by
  unfold State.busWrite
  cases target a with
  | io r =>
    cases r with
    | dma => exact State.dmaFold_repaint { s with ppu := { s.ppu with dma := v } } fb out n v _
    | _ => rfl
  | _ => rfl

@[simp] theorem State.busWrites_repaint (l : List (Word × Byte)) :
    (s.repaint fb out n).busWrites l = (s.busWrites l).repaint fb out n := by
  induction l generalizing s with
  | nil => rfl
  | cons w l ih => rw [State.busWrites_cons, State.busWrite_repaint, ih, State.busWrites_cons]

@[simp] theorem State.writeHl_repaint (v : Byte) :
    (s.repaint fb out n).writeHl v = (s.writeHl v).repaint fb out n := State.busWrite_repaint s fb out n s.cpu.hl v

@[simp] theorem State.push16_repaint (v : Word) :
    (s.repaint fb out n).push16 v = (s.push16 v).repaint fb out n := by
  rw [State.push16_eq, State.busWrites_repaint, State.push16_eq]
  rfl

/-! ### One instruction -/

theorem Result.ite_repaint {c : Prop} [Decidable c] {r₁ r₂ r₁' r₂' : Result}
    (h₁ : r₁' = Result.andThen r₁ (·.repaint fb out n)) (h₂ : r₂' = Result.andThen r₂ (·.repaint fb out n)) :
    (if c then r₁' else r₂') = Result.andThen (if c then r₁ else r₂) (·.repaint fb out n) := by
  split <;> assumption

theorem stop_repaint : stop (s.repaint fb out n) = Result.andThen (stop s) (·.repaint fb out n) := by
  unfold stop
  show (match s.env.stop with | .nop2 => _ | .refuse => _) = _
  cases s.env.stop <;> rfl

theorem call_repaint (m : Nat) (a : Word) :
    call m a (s.repaint fb out n) = Result.andThen (call m a s) (·.repaint fb out n) := by
  unfold call
  rw [State.push16_repaint]
  rfl

/-- An instruction does in a repainted machine what it does in the machine. -/
theorem exec_repaint (i : Instr) :
    exec i (s.repaint fb out n) = Result.andThen (exec i s) (·.repaint fb out n) := by
  induction i using Instr.forms with
  | ldRegReg | ldRegImm | ldRegHl | ldPairImm | pop | addHl | incPair | decPair =>
    simp only [exec_ldRegReg, exec_ldRegImm, exec_ldRegHl, exec_ldPairImm, exec_pop, exec_addHl, exec_incPair,
      exec_decPair]
    rfl
  | aluReg | aluHl | aluImm | incReg | decReg =>
    simp only [exec_aluReg, exec_aluHl, exec_aluImm, exec_incReg, exec_decReg]
    rfl
  | rotReg | bitReg | bitHl | resReg | setReg =>
    simp only [exec_rotReg, exec_bitReg, exec_bitHl, exec_resReg, exec_setReg]
    rfl
  | nop | di | ei | ret | reti | jpA16 | jpHl | jrE8 | daa | cpl | scf | ccf | rlca | rrca | rla | rra | ldSpHl
  | addSpE8 | ldHlSpE8 | ldAAtBc | ldAAtDe | ldAAtA16 | ldhAAtC | ldhAAtA8 | ldAAtHlInc | ldAAtHlDec =>
    rfl
  | ldHlImm | ldAtBcA | ldAtDeA | ldAtA16A | ldhAtCA | ldhAtA8A =>
    exact congrArg (finish _) (State.busWrite_repaint s fb out n _ _)
  | ldHlReg | rotHl | resHl | setHl | incAtHl | decAtHl | ldAtHlIncA | ldAtHlDecA =>
    simp only [exec_ldHlReg, exec_rotHl, exec_resHl, exec_setHl, exec_incAtHl, exec_decAtHl, exec_ldAtHlIncA,
      exec_ldAtHlDecA, ldHlReg, rotHl, resetBitHl, setBitHl, incHl, decHl, storeAHlStep, State.writeHl_repaint]
    rfl
  | ldAtA16Sp a =>
    simp only [exec_ldAtA16Sp, storeSp, State.busWrite16, State.busWrite_repaint]
    rfl
  | push p =>
    simp only [exec_push, push, State.push16_repaint]
    rfl
  | callA16 a => exact call_repaint s fb out n 24 a
  | rst y => rw [exec_rst, exec_rst, call_repaint]
  | callIf cc a =>
    rw [exec_callIf, exec_callIf]
    exact Result.ite_repaint fb out n (call_repaint s fb out n 24 a) rfl
  | jpIf cc a => rw [exec_jpIf, exec_jpIf]; exact Result.ite_repaint fb out n rfl rfl
  | jrIf cc e => rw [exec_jrIf, exec_jrIf]; exact Result.ite_repaint fb out n rfl rfl
  | retIf cc => rw [exec_retIf, exec_retIf]; exact Result.ite_repaint fb out n rfl rfl
  | halt => exact Result.ite_repaint fb out n rfl rfl
  | stop v => exact stop_repaint s fb out n
  | illegal i op h => rw [exec_illegal i op h, exec_illegal i op h]; rfl

/-! ### The CPU step and the host's turn -/

@[simp] theorem State.delayedEnable_repaint :
    (s.repaint fb out n).delayedEnable = s.delayedEnable.repaint fb out n := by
  unfold State.delayedEnable
  rw [apply_ite (State.repaint · fb out n)]
  rfl

@[simp] theorem State.wake_repaint : (s.repaint fb out n).wake = s.wake.repaint fb out n := by
  unfold State.wake
  rw [apply_ite (State.repaint · fb out n)]
  rfl

@[simp] theorem State.takeInterrupt_repaint (source : Nat) :
    (s.repaint fb out n).takeInterrupt source = (s.takeInterrupt source).repaint fb out n := by
  unfold State.takeInterrupt
  rw [State.cpu_repaint, State.push16_repaint]
  rfl

@[simp] theorem State.handlerStart_repaint (before : State) :
    (s.repaint fb out n).handlerStart (before.repaint fb out n) = (s.handlerStart before).repaint fb out n := by
  unfold State.handlerStart
  rw [apply_ite (State.repaint · fb out n)]
  rfl

/-- Parts (b) to (d) of the CPU step take the same branch (60_exceptions.md R422 to R424). -/
theorem State.serve_repaint (before : State) :
    (s.repaint fb out n).serve (before.repaint fb out n) =
      Result.andThen (s.serve before) (·.repaint fb out n) := by
  unfold State.serve State.fetchExecute
  rw [State.wake_repaint, State.takeInterrupt_repaint, State.handlerStart_repaint]
  exact Result.ite_repaint fb out n rfl (Result.ite_repaint fb out n rfl (exec_repaint _ fb out n _))

theorem State.cpuStep_repaint :
    (s.repaint fb out n).cpuStep = Result.andThen s.cpuStep (·.repaint fb out n) := by
  unfold State.cpuStep
  rw [State.delayedEnable_repaint, State.serve_repaint]

@[simp] theorem State.hostTurn_repaint : (s.repaint fb out n).hostTurn = s.hostTurn.repaint fb out n := by
  unfold State.hostTurn
  show (match s.env.actions with | [] => _ | h :: rest => _) = _
  cases s.env.actions <;> rfl

@[simp] theorem State.timerTick_repaint (c : Nat) :
    (s.repaint fb out n).timerTick c = (s.timerTick c).repaint fb out n := by
  rw [State.timerTick_eq, State.timerTick_eq]
  rfl

@[simp] theorem State.setLy_repaint (v : Byte) : (s.repaint fb out n).setLy v = (s.setLy v).repaint fb out n := by
  unfold State.setLy
  rw [apply_ite (State.repaint · fb out n)]
  rfl

end

/-! ### The PPU writes the picture and does not look at it -/

theorem State.Repainted.leaveMode {s t : State} (h : s.Repainted t) : s.leaveMode.Repainted t.leaveMode := by
  obtain ⟨fb, out, n, rfl⟩ := h
  rcases mode_cases s.ppu.mode with hm | hm | hm | hm
  · rw [State.leaveMode_hblank hm, State.leaveMode_hblank (s := s.repaint fb out n) hm, State.setLy_repaint]
    exact ⟨fb, out, n, rfl⟩
  · rw [State.leaveMode_vblank hm, State.leaveMode_vblank (s := s.repaint fb out n) hm, State.setLy_repaint,
      State.setLy_repaint]
    show State.Repainted _ (if s.ppu.ly = 153 then _ else _)
    split
    · exact ⟨fb, fb, n + 1, rfl⟩
    · exact ⟨fb, out, n, rfl⟩
  · rw [State.leaveMode_scan hm, State.leaveMode_scan (s := s.repaint fb out n) hm]
    exact ⟨fb, out, n, rfl⟩
  · rw [State.leaveMode_transfer hm, State.leaveMode_transfer (s := s.repaint fb out n) hm]
    exact ⟨(s.repaint fb out n).ppu.renderScanline s.ppu.ly.toNat, out, n, rfl⟩

theorem State.Repainted.withClock {s t : State} (h : s.Repainted t) (c : Nat) :
    (s.withClock c).Repainted (t.withClock c) := by
  obtain ⟨fb, out, n, rfl⟩ := h
  exact ⟨fb, out, n, rfl⟩

theorem State.Repainted.ppuTurn {s t : State} (h : s.Repainted t) : s.ppuTurn.Repainted t.ppuTurn := by
  have hclock := h.leaveMode.withClock (s.ppu.modeClock - modeLength s.ppu.mode)
  obtain ⟨fb, out, n, rfl⟩ := h
  exact hclock

theorem State.Repainted.ppuLoop {s t : State} (h : s.Repainted t) (fuel : Nat) :
    (State.ppuLoop fuel s).Repainted (State.ppuLoop fuel t) := by
  induction fuel generalizing s t with
  | zero => exact h
  | succ fuel ih =>
    have hturn := ih h.ppuTurn
    rw [State.ppuLoop_succ, State.ppuLoop_succ]
    obtain ⟨fb, out, n, rfl⟩ := h
    show State.Repainted _ (if modeLength s.ppu.mode ≤ s.ppu.modeClock then _ else _)
    split
    · exact hturn
    · exact ⟨fb, out, n, rfl⟩

theorem State.Repainted.ppuStep {s t : State} (h : s.Repainted t) (c : Nat) :
    (s.ppuStep c).Repainted (t.ppuStep c) := by
  have hloop := (h.withClock (s.ppu.modeClock + c)).ppuLoop ((s.ppu.modeClock + c) / 80)
  obtain ⟨fb, out, n, rfl⟩ := h
  exact hloop

theorem State.Repainted.tickDevices {s t : State} (h : s.Repainted t) :
    s.tickDevices.Repainted t.tickDevices := by
  obtain ⟨fb, out, n, rfl⟩ := h
  unfold State.tickDevices
  show State.Repainted _ (match s.cycles with | none => _ | some c => _)
  cases s.cycles with
  | none => exact ⟨fb, out, n, rfl⟩
  | some c =>
    refine State.Repainted.ppuStep ⟨fb, out, n, ?_⟩ c
    exact State.timerTick_repaint s fb out n c

/-! ### A step -/

/-- Two machines that differ in the picture only take the same step. -/
theorem step_repainted {s t s' : State} (hs : s.Repainted s') (h : step s = .next t) :
    ∃ t', t.Repainted t' ∧ step s' = .next t' := by
  obtain ⟨fb, out, n, rfl⟩ := hs
  have hfatal := (step_next h).1
  unfold step at h ⊢
  rw [hfatal] at h
  obtain ⟨v, hv, rfl⟩ := Result.andThen_next (r := s.hostTurn.cpuStep) h
  refine ⟨(v.repaint fb out n).tickDevices, State.Repainted.tickDevices ⟨fb, out, n, rfl⟩, ?_⟩
  rw [State.cpu_repaint, hfatal, State.hostTurn_repaint]
  show Result.andThen (State.cpuStep _) _ = _
  rw [State.cpuStep_repaint, hv]
  rfl

/-- Settles O58: the CPU step commutes with repainting, and of the devices only the PPU touches the picture, which it
writes and never reads back. -/
theorem pictureIsNeverRead : Obligations.PictureIsNeverRead := by
  intro s t fb out n repaint h
  obtain ⟨t', ⟨fb', out', n', rfl⟩, ht⟩ := step_repainted ⟨fb, out, n, rfl⟩ h
  exact ⟨fb', out', n', ht⟩

end Sys2Proof.Machine
end

section
/-!
PROOFS. Outside the CPU an instruction does exactly the bus writes of its operand forms (20_memory.md R61, R93, R96).
-/

namespace Sys2Proof.Machine

/-- If the result is a next state, it is the state after the bus writes `l`, up to the CPU and the cycle count. -/
def Result.Writes (r : Result) (s : State) (l : List (Word × Byte)) : Prop :=
  ∀ t, r = .next t → { t with cpu := s.cpu, cycles := s.cycles } = s.busWrites l

theorem writes_finish {s u : State} {l : List (Word × Byte)} {n : Nat}
    (h : { u with cpu := s.cpu, cycles := s.cycles } = s.busWrites l) : (finish n u).Writes s l := by
  rintro t ⟨rfl⟩
  exact h

/-- Bus writes, then registers. -/
theorem writes_busWrites (s : State) (l : List (Word × Byte)) {k : Cpu} {n : Nat} :
    Result.Writes (finish n { s.busWrites l with cpu := k }) s l := by
  apply writes_finish
  conv_lhs => rw [← State.cpu_busWrites s l, ← State.cycles_busWrites s l]

/-- Registers only. -/
theorem writes_cpu {s u : State} {n : Nat} (h : { u with cpu := s.cpu, cycles := s.cycles } = s) :
    (finish n u).Writes s [] := writes_finish h

theorem writes_store {s : State} {a : Word} {v : Byte} {n : Nat} :
    Result.Writes (finish n (s.busWrite a v)) s [(a, v)] := by
  apply writes_finish
  conv_lhs => rw [← State.cpu_busWrite s a v, ← State.cycles_busWrite s a v]
  rfl

theorem writes_push {s : State} {v : Word} {k : Cpu} {n : Nat} :
    Result.Writes (finish n { s.push16 v with cpu := k }) s (pushWrites s.cpu.sp v) := by
  rw [State.push16_eq]
  exact writes_busWrites s _

theorem writes_ite {s : State} {c : Prop} [Decidable c] {r r' : Result} {l l' : List (Word × Byte)}
    (h : r.Writes s l) (h' : r'.Writes s l') : Result.Writes (if c then r else r') s (if c then l else l') := by
  split <;> assumption

theorem writes_ite_nil {s : State} {c : Prop} [Decidable c] {r r' : Result} (h : r.Writes s []) (h' : r'.Writes s []) :
    Result.Writes (if c then r else r') s [] := by
  split <;> assumption

theorem writes_stop (s : State) : (stop s).Writes s [] := by
  unfold stop
  split
  · exact writes_cpu rfl
  · rintro t ⟨⟩

theorem writes_raiseIllegal (op : Byte) (s : State) : (raiseIllegal op s).Writes s [] := by
  rintro t ⟨rfl⟩
  rfl

/-! ### The bus writes of each form -/

theorem stores_ldHlReg (s : State) (r : Reg8) : (Instr.ldHlReg r).stores s = [(s.cpu.hl, s.cpu.reg r)] := by
  cases r <;> rfl

theorem stores_push (s : State) (p : StackPair) :
    (Instr.push p).stores s = pushWrites s.cpu.sp (s.cpu.stackPair p) := by
  cases p <;> rfl

theorem stores_rotHl (s : State) (op : RotOp) :
    (Instr.rotHl op).stores s = [(s.cpu.hl, (rotResult op s.readHl s.cpu.f.c).1)] := by
  cases op <;> rfl

theorem stores_resHl (s : State) (b : Fin 8) : (Instr.resHl b).stores s = [(s.cpu.hl, resetBit s.readHl b)] := by
  fin_cases b <;> rfl

theorem stores_setHl (s : State) (b : Fin 8) : (Instr.setHl b).stores s = [(s.cpu.hl, setBit s.readHl b)] := by
  fin_cases b <;> rfl

theorem stores_rst (s : State) (y : Fin 8) : (Instr.rst y).stores s = pushWrites s.cpu.sp s.cpu.pc := by
  fin_cases y <;> rfl

/-- A conditional CALL pushes when it is taken (45_control.md R357). -/
theorem stores_callIf (s : State) (cc : Cond) (a : Word) :
    (Instr.callIf cc a).stores s = if s.cpu.f.holds cc then pushWrites s.cpu.sp s.cpu.pc else [] := by
  cases cc with
  | nz => exact if_congr (Bool.not_eq_true' _).symm.to_iff rfl rfl
  | nc => exact if_congr (Bool.not_eq_true' _).symm.to_iff rfl rfl
  | z => rfl
  | c => rfl

theorem stores_ldRegReg (s : State) (dst r : Reg8) : (Instr.ldRegReg dst r).stores s = [] := by
  cases dst <;> cases r <;> rfl

theorem stores_ldRegImm (s : State) (dst : Reg8) (v : Byte) : (Instr.ldRegImm dst v).stores s = [] := by
  cases dst <;> rfl

theorem stores_ldRegHl (s : State) (dst : Reg8) : (Instr.ldRegHl dst).stores s = [] := by
  cases dst <;> rfl

theorem stores_ldPairImm (s : State) (p : Pair) (v : Word) : (Instr.ldPairImm p v).stores s = [] := by
  cases p <;> rfl

theorem stores_pop (s : State) (p : StackPair) : (Instr.pop p).stores s = [] := by
  cases p <;> rfl

theorem stores_aluReg (s : State) (op : AluOp) (r : Reg8) : (Instr.aluReg op r).stores s = [] := by
  cases op <;> cases r <;> rfl

theorem stores_aluHl (s : State) (op : AluOp) : (Instr.aluHl op).stores s = [] := by
  cases op <;> rfl

theorem stores_aluImm (s : State) (op : AluOp) (v : Byte) : (Instr.aluImm op v).stores s = [] := by
  cases op <;> rfl

theorem stores_incReg (s : State) (r : Reg8) : (Instr.incReg r).stores s = [] := by
  cases r <;> rfl

theorem stores_decReg (s : State) (r : Reg8) : (Instr.decReg r).stores s = [] := by
  cases r <;> rfl

theorem stores_addHl (s : State) (p : Pair) : (Instr.addHl p).stores s = [] := by
  cases p <;> rfl

theorem stores_incPair (s : State) (p : Pair) : (Instr.incPair p).stores s = [] := by
  cases p <;> rfl

theorem stores_decPair (s : State) (p : Pair) : (Instr.decPair p).stores s = [] := by
  cases p <;> rfl

theorem stores_rotReg (s : State) (op : RotOp) (r : Reg8) : (Instr.rotReg op r).stores s = [] := by
  cases op <;> cases r <;> rfl

theorem stores_bitReg (s : State) (b : Fin 8) (r : Reg8) : (Instr.bitReg b r).stores s = [] := by
  cases r <;> fin_cases b <;> rfl

theorem stores_bitHl (s : State) (b : Fin 8) : (Instr.bitHl b).stores s = [] := by
  fin_cases b <;> rfl

theorem stores_resReg (s : State) (b : Fin 8) (r : Reg8) : (Instr.resReg b r).stores s = [] := by
  cases r <;> fin_cases b <;> rfl

theorem stores_setReg (s : State) (b : Fin 8) (r : Reg8) : (Instr.setReg b r).stores s = [] := by
  cases r <;> fin_cases b <;> rfl

theorem stores_jpIf (s : State) (cc : Cond) (a : Word) : (Instr.jpIf cc a).stores s = [] := by
  cases cc <;> rfl

theorem stores_jrIf (s : State) (cc : Cond) (e : Byte) : (Instr.jrIf cc e).stores s = [] := by
  cases cc <;> rfl

theorem stores_retIf (s : State) (cc : Cond) : (Instr.retIf cc).stores s = [] := by
  cases cc <;> rfl

theorem stores_illegal (s : State) {i : Instr} {op : Byte} (h : i.invalidOpcode? = some op) : i.stores s = [] := by
  unfold Instr.invalidOpcode? at h
  split at h <;> first | rfl | cases h

/-! ### Every instruction -/

/-- An instruction makes the bus writes of its operand form and touches nothing else outside the CPU. -/
theorem exec_writes (i : Instr) (s : State) : Result.Writes (exec i s) s (i.stores s) := by
  induction i using Instr.forms with
  | ldRegReg | ldRegImm | ldRegHl | ldPairImm | pop | addHl | incPair | decPair =>
    simp only [exec_ldRegReg, exec_ldRegImm, exec_ldRegHl, exec_ldPairImm, exec_pop, exec_addHl, exec_incPair,
      exec_decPair, stores_ldRegReg, stores_ldRegImm, stores_ldRegHl, stores_ldPairImm, stores_pop, stores_addHl,
      stores_incPair, stores_decPair]
    exact writes_cpu rfl
  | aluReg | aluHl | aluImm | incReg | decReg =>
    simp only [exec_aluReg, exec_aluHl, exec_aluImm, exec_incReg, exec_decReg, stores_aluReg, stores_aluHl,
      stores_aluImm, stores_incReg, stores_decReg]
    exact writes_cpu rfl
  | rotReg | bitReg | bitHl | resReg | setReg =>
    simp only [exec_rotReg, exec_bitReg, exec_bitHl, exec_resReg, exec_setReg, stores_rotReg, stores_bitReg,
      stores_bitHl, stores_resReg, stores_setReg]
    exact writes_cpu rfl
  | nop | di | ei | ret | reti | jpA16 | jpHl | jrE8 | daa | cpl | scf | ccf | rlca | rrca | rla | rra | ldSpHl
  | addSpE8 | ldHlSpE8 | ldAAtBc | ldAAtDe | ldAAtA16 | ldhAAtC | ldhAAtA8 | ldAAtHlInc | ldAAtHlDec =>
    exact writes_cpu rfl
  | ldHlImm | ldAtBcA | ldAtDeA | ldAtA16A | ldhAtCA | ldhAtA8A => exact writes_store
  | ldHlReg | resHl | setHl =>
    simp only [exec_ldHlReg, exec_resHl, exec_setHl, stores_ldHlReg, stores_resHl, stores_setHl]
    exact writes_store
  | incAtHl | decAtHl | ldAtHlIncA | ldAtHlDecA => exact writes_busWrites s [(_, _)]
  | rotHl op =>
    rw [exec_rotHl, stores_rotHl]
    exact writes_busWrites s [(_, _)]
  | ldAtA16Sp a => exact writes_busWrites s [(_, _), (_, _)]
  | push p =>
    rw [exec_push, stores_push]
    exact writes_push
  | callA16 a => exact writes_push
  | rst y =>
    rw [exec_rst, stores_rst]
    exact writes_push
  | callIf cc a =>
    rw [exec_callIf, stores_callIf]
    exact writes_ite writes_push (writes_cpu rfl)
  | jpIf cc a => rw [exec_jpIf, stores_jpIf]; exact writes_ite_nil (writes_cpu rfl) (writes_cpu rfl)
  | jrIf cc e => rw [exec_jrIf, stores_jrIf]; exact writes_ite_nil (writes_cpu rfl) (writes_cpu rfl)
  | retIf cc => rw [exec_retIf, stores_retIf]; exact writes_ite_nil (writes_cpu rfl) (writes_cpu rfl)
  | halt => exact writes_ite_nil (writes_cpu rfl) (writes_cpu rfl)
  | stop v => exact writes_stop s
  | illegal i op h => rw [exec_illegal i op h, stores_illegal s h]; exact writes_raiseIllegal op s

/-- Settles O33, form by form. -/
theorem effectIsItsBusWrites : Obligations.EffectIsItsBusWrites := exec_writes

end Sys2Proof.Machine
end

section
/-!
PROOFS. The bus row by row: the registers at their addresses, the echo and the unmapped addresses, the ROM windows under
the boot overlay, and the OAM DMA copy (20_memory.md R66 to R91).
-/

namespace Sys2Proof.Machine

/-! ### The registers have one address each -/

/-- The address of a register (20_memory.md R66). -/
def IoReg.addr : IoReg → Word
  | .joyp => 0xFF00
  | .sb => 0xFF01
  | .sc => 0xFF02
  | .div => 0xFF04
  | .tima => 0xFF05
  | .tma => 0xFF06
  | .tac => 0xFF07
  | .iflag => 0xFF0F
  | .lcdc => 0xFF40
  | .stat => 0xFF41
  | .scy => 0xFF42
  | .scx => 0xFF43
  | .ly => 0xFF44
  | .lyc => 0xFF45
  | .dma => 0xFF46
  | .bgp => 0xFF47
  | .obp0 => 0xFF48
  | .obp1 => 0xFF49
  | .wy => 0xFF4A
  | .wx => 0xFF4B
  | .bootOff => 0xFF50
  | .ie => 0xFFFF

theorem target_addr (r : IoReg) : target r.addr = .io r := by
  cases r <;> rfl

theorem ioAt_addr {k : Nat} {r : IoReg} (h : ioAt k = some r) : r.addr.toNat = 0xFF00 + k := by
  unfold ioAt at h
  split at h <;> cases h <;> rfl

/-- The address decode gives a register to its own address only. -/
theorem addr_of_target {a : Word} {r : IoReg} (h : target a = .io r) : a = r.addr := by
  have lo := target_index a
  rw [h] at lo
  replace lo : 0xFF00 ≤ a.toNat := lo
  obtain hi | hi | hi : a.toNat < 0xFF80 ∨ (0xFF80 ≤ a.toNat ∧ a.toNat < 0xFFFF) ∨ a.toNat = 0xFFFF := by
    have := a.isLt
    omega
  · cases hr : ioAt (a.toNat - 0xFF00) with
    | none => rw [target_unmapped lo hi hr] at h; cases h
    | some q =>
      rw [target_io lo hi hr] at h
      cases h
      exact BitVec.eq_of_toNat_eq (by rw [ioAt_addr hr]; omega)
  · rw [target_hram hi.1 hi.2] at h
    cases h
  · have last : a = 0xFFFF := BitVec.eq_of_toNat_eq (hi.trans (by decide))
    rw [last, target_ie] at h
    cases h
    exact last

theorem State.busRead_reg (s : State) (r : IoReg) : s.busRead r.addr = s.ioRead r := by
  have high : 0x100 ≤ r.addr.toNat := by
    have := target_index r.addr
    rw [target_addr] at this
    exact le_trans (by decide) this
  rw [State.busRead_high s high, target_addr]
  rfl

theorem State.busWrite_reg (s : State) (r : IoReg) (v : Byte) : s.busWrite r.addr v = s.ioWrite r v := by
  unfold State.busWrite
  rw [target_addr]
  rfl

/-- The serial sink takes SB when 0x81 is written to SC (20_memory.md R84). -/
theorem Bus.writeSc_eq (b : Bus) (v : Byte) :
    b.writeSc v = { b with sc := v, serialSink := b.serialSink ++ if v = 0x81 then [b.sb] else [] } := by
  unfold Bus.writeSc
  split
  · rfl
  · rw [List.append_nil]

theorem State.ioWrite_sc (s : State) (v : Byte) :
    s.ioWrite .sc v =
      { s with
        bus := { s.bus with sc := v, serialSink := s.bus.serialSink ++ if v = 0x81 then [s.bus.sb] else [] } } := by
  rw [← Bus.writeSc_eq]
  rfl

/-- Settles O38, register by register. -/
theorem deviceRegisters : Obligations.DeviceRegisters := fun s v =>
  have r := State.busRead_reg s
  have w := fun q => State.busWrite_reg s q v
  have joyp {sel : BitVec 2} (h : s.bus.joypSel = sel) : s.busRead 0xFF00 = joypadByte s.env.joypad sel :=
    h ▸ r .joyp
  ⟨w .joyp, joyp, joyp, joyp, joyp, r .sb, w .sb, r .sc, (w .sc).trans (State.ioWrite_sc s v), r .div, r .tima,
    w .tima, r .tma, w .tma, r .tac, w .tac, r .iflag, w .iflag, r .ie, w .ie⟩

/-- The latch turns the overlay off and never on (20_memory.md R88). -/
theorem Bus.writeBootOff_eq (b : Bus) (v : Byte) :
    b.writeBootOff v = { b with bootEnabled := b.bootEnabled && decide (v = 0) } := by
  unfold Bus.writeBootOff
  split
  · next h => rw [decide_eq_true h, Bool.and_true]
  · next h => rw [decide_eq_false h, Bool.and_false]

theorem State.ioWrite_bootOff (s : State) (v : Byte) :
    s.ioWrite .bootOff v = { s with bus := { s.bus with bootEnabled := s.bus.bootEnabled && decide (v = 0) } } := by
  rw [← Bus.writeBootOff_eq]
  rfl

/-- Settles O39, register by register. -/
theorem ppuRegistersAndBootLatch : Obligations.PpuRegistersAndBootLatch := fun s v =>
  have r := State.busRead_reg s
  have w := fun q => State.busWrite_reg s q v
  ⟨r .lcdc, w .lcdc, r .stat, w .stat, r .scy, w .scy, r .scx, w .scx, r .ly, w .ly, r .lyc, w .lyc, r .dma, r .bgp,
    w .bgp, r .obp0, w .obp0, r .obp1, w .obp1, r .wy, w .wy, r .wx, w .wx, r .bootOff,
    (w .bootOff).trans (State.ioWrite_bootOff s v)⟩

/-! ### Echo and unmapped addresses -/

theorem toNat_address {n : Nat} (h : n < 0x10000) : (BitVec.ofNat 16 n).toNat = n := by
  rw [BitVec.toNat_ofNat]
  omega

theorem target_wram_at {k : Nat} (h : k < 0x2000) : target (BitVec.ofNat 16 (0xC000 + k)) = .wram k := by
  have hn := toNat_address (n := 0xC000 + k) (by omega)
  rw [target_wram (by omega) (by omega), hn, Nat.add_sub_cancel_left]

theorem target_echo_at {k : Nat} (h : k < 0x1E00) : target (BitVec.ofNat 16 (0xE000 + k)) = .wram k := by
  have hn := toNat_address (n := 0xE000 + k) (by omega)
  rw [target_echo (by omega) (by omega), hn, Nat.add_sub_cancel_left]

theorem State.busRead_wram {s : State} {a : Word} {k : Nat} (h : target a = .wram k) :
    s.busRead a = Cells.read s.bus.wram k := by
  have hi := target_index a
  rw [h] at hi
  replace hi : (a.toNat = 0xC000 + k ∧ k < 0x2000) ∨ (a.toNat = 0xE000 + k ∧ k < 0x1E00) := hi
  rw [State.busRead_high s (by omega), h]
  rfl

theorem State.busWrite_target {s : State} {a : Word} {w : Target} (h : target a = w) (v : Byte) :
    s.busWrite a v = s.writeTarget v w := congrArg (s.writeTarget v) h

theorem State.busRead_unmapped {s : State} {a : Word} (h : target a = .unmapped) : s.busRead a = 0xFF := by
  have hi := target_index a
  rw [h] at hi
  rw [State.busRead_high s (le_trans (by decide) hi), h]
  rfl

theorem target_of_unmapped {a : Word}
    (h : (0xFEA0 ≤ a.toNat ∧ a.toNat ≤ 0xFEFF) ∨ a.toNat = 0xFF03 ∨ (0xFF08 ≤ a.toNat ∧ a.toNat ≤ 0xFF0E) ∨
      (0xFF10 ≤ a.toNat ∧ a.toNat ≤ 0xFF3F) ∨ (0xFF4C ≤ a.toNat ∧ a.toNat ≤ 0xFF4F) ∨
      (0xFF51 ≤ a.toNat ∧ a.toNat ≤ 0xFF7F)) : target a = .unmapped := by
  rcases h with ⟨lo, hi⟩ | h
  · exact target_unusable lo (by omega)
  · exact target_unmapped (by omega) (by omega) (ioAt_none (by omega))

/-- Settles O37: the echo's targets are those of work RAM. -/
theorem echoAndUnmapped : Obligations.EchoAndUnmapped := by
  refine ⟨fun s k v hk => ?_, fun s a v h => ?_⟩
  · have echo := target_echo_at hk
    have wram := target_wram_at (k := k) (by omega)
    have write := State.busWrite_target (s := s) echo v
    exact ⟨State.busRead_wram echo, State.busRead_wram wram, write.trans (State.busWrite_target wram v).symm, write⟩
  · have unmapped := target_of_unmapped h
    exact ⟨State.busRead_unmapped unmapped, State.busWrite_target unmapped v⟩

/-! ### The ROM windows -/

theorem State.busRead_overlay {s : State} {a : Word} (h : s.bootCovers a = true) :
    s.busRead a = Cells.read s.env.bootImage a.toNat := if_pos h

theorem State.busRead_uncovered {s : State} {a : Word} (h : s.bootCovers a = false) :
    s.busRead a = s.readTarget (target a) := if_neg (by rw [h]; decide)

theorem State.busRead_rom {s : State} {a : Word} (h : s.bootCovers a = false) (ha : a.toNat < 0x8000) :
    s.busRead a = s.cart.imageByte (s.cart.romIndex a.toNat) := by
  rw [State.busRead_uncovered h, target_rom ha]
  rfl

theorem State.bootCovers_iff {s : State} {a : Word} :
    s.bootCovers a = true ↔ s.bus.bootEnabled = true ∧ a.toNat < 0x100 := by
  rw [State.bootCovers, Bool.and_eq_true, decide_eq_true_eq]

theorem State.bootCovers_eq_false {s : State} {a : Word} (h : s.bus.bootEnabled = false ∨ 0x100 ≤ a.toNat) :
    s.bootCovers a = false := by
  rw [← Bool.not_eq_true, State.bootCovers_iff]
  rintro ⟨hon, hlt⟩
  rcases h with hoff | hge
  · cases hon.symm.trans hoff
  · omega

theorem Cart.romIndex_fixed (k : Cart) {n : Nat} (h : n < 0x4000) : k.romIndex n = n := if_pos h

theorem Cart.romIndex_switched (k : Cart) {n : Nat} (h : 0x4000 ≤ n) :
    k.romIndex n = k.effRomBank * 0x4000 + (n - 0x4000) := if_neg (by omega)

/-- Settles O41: a write to the ROM windows does not look at the overlay. -/
theorem romWindowAndOverlay : Obligations.RomWindowAndOverlay := by
  refine ⟨fun s a v ha => ⟨fun hon hlt => ?_, fun h => ?_, ?_⟩, fun s a lo hi => ?_⟩
  · exact State.busRead_overlay (State.bootCovers_iff.mpr ⟨hon, hlt⟩)
  · rw [State.busRead_rom (State.bootCovers_eq_false h) (by omega), Cart.romIndex_fixed _ ha]
    rfl
  · rw [State.busWrite_rom s v (by omega), State.busWrite_rom _ v (by omega)]
  · rw [State.busRead_rom (State.bootCovers_eq_false (.inr (by omega))) hi, Cart.romIndex_switched _ lo]
    rfl

/-! ### OAM DMA -/

/-- The source of byte `i` of the copy is in OAM only where it is byte `i` of OAM itself. -/
theorem target_dmaSource {v : Byte} {i j : Nat} (hi : i < 0xA0)
    (h : target (BitVec.ofNat 16 (v.toNat * 0x100 + i)) = .oam j) : j = i := by
  have := v.isLt
  have hj := target_index (BitVec.ofNat 16 (v.toNat * 0x100 + i))
  rw [h, toNat_address (by omega)] at hj
  replace hj : v.toNat * 0x100 + i = 0xFE00 + j ∧ j < 160 := hj
  omega

/-- A read that is not of OAM does not see OAM change. -/
theorem State.busRead_oam_frame (s : State) (oam : Memory) {a : Word}
    (h : ∀ j, target a = .oam j → Cells.read oam j = Cells.read s.ppu.oam j) :
    State.busRead { s with ppu := { s.ppu with oam := oam } } a = s.busRead a := by
  unfold State.busRead
  cases ht : target a with
  | oam j => exact congrArg (ite _ _) (h j ht)
  | _ => rfl

/-- After `n` bytes of the copy, the first `n` bytes of OAM are those of the page and the others are as before. -/
theorem State.read_dmaFold (s : State) (v : Byte) {n : Nat} (hn : n ≤ 0xA0) (i : Nat) :
    Cells.read ((List.range n).foldl (State.dmaByte v) s).ppu.oam i =
      if i < n then s.busRead (BitVec.ofNat 16 (v.toNat * 0x100 + i)) else Cells.read s.ppu.oam i := by
  induction n generalizing i with
  | zero => rfl
  | succ n ih =>
    have source : State.busRead ((List.range n).foldl (State.dmaByte v) s) (BitVec.ofNat 16 (v.toNat * 0x100 + n)) =
        s.busRead (BitVec.ofNat 16 (v.toNat * 0x100 + n)) := by
      rw [State.dmaFold_eq]
      refine State.busRead_oam_frame s _ fun j hj => ?_
      rw [target_dmaSource (by omega) hj, ih (by omega), if_neg (by omega)]
    rw [List.range_succ, List.foldl_append, List.foldl_cons, List.foldl_nil, State.dmaByte, source, State.writeOam_ppu]
    simp only [Cells.read_write, ih (by omega : n ≤ 0xA0)]
    by_cases h : i = n
    · rw [if_pos h, if_pos (by omega), h]
    · have hlt : i < n ↔ i < n + 1 := by omega
      simp only [if_neg h, hlt]

theorem target_oam_at {i : Nat} (h : i < 0xA0) : target (BitVec.ofNat 16 (0xFE00 + i)) = .oam i := by
  have hn := toNat_address (n := 0xFE00 + i) (by omega)
  rw [target_oam (by omega) (by omega), hn, Nat.add_sub_cancel_left]

theorem State.busRead_oam (s : State) {i : Nat} (h : i < 0xA0) :
    s.busRead (BitVec.ofNat 16 (0xFE00 + i)) = Cells.read s.ppu.oam i := by
  rw [State.busRead_high s (by rw [toNat_address] <;> omega), target_oam_at h]
  rfl

/-- Settles O40: the copy goes in ascending order, and a byte of the page that is itself in OAM is read before it is
written. -/
theorem oamDmaCopiesAPage : Obligations.OamDmaCopiesAPage := by
  intro s v d
  have hw : s.busWrite 0xFF46 v = d.oamDma v := State.busWrite_reg s .dma v
  rw [hw]
  refine ⟨State.oamDma_eq d v, fun i hi => ?_⟩
  rw [State.busRead_oam _ hi, Nat.mul_comm]
  exact (State.read_dmaFold d v le_rfl i).trans (if_pos hi)

end Sys2Proof.Machine
end

section
/-!
PROOFS. What a bus write can change of what a bus read gives: the byte of RAM written, under each of its addresses, and
for the other rows the reach of the address map (20_memory.md R66, R73 to R78, R89, R94).
-/

namespace Sys2Proof.Machine

/-! ### RAM -/

/-- Whether a row of the address decode is a byte of RAM. -/
def State.ramTarget (s : State) : Target → Bool
  | .vram _ | .oam _ | .wram _ | .hram _ => true
  | .ext i =>
    match s.cart.extCell i with
    | .cram _ => true
    | _ => false
  | _ => false

theorem State.ramAt_eq (s : State) (a : Word) : s.ramAt a = s.ramTarget (target a) := by
  unfold State.ramAt State.ramTarget
  cases target a <;> rfl

theorem ite_beq_comm {α : Type} (i j : Nat) (v x : α) : (if j = i then v else x) = if (i == j) = true then v else x :=
  if_congr (by rw [beq_iff_eq, eq_comm]) rfl rfl

theorem State.readTarget_writeTarget_ext {s : State} {i m : Nat} (hm : s.cart.extCell i = .cram m) (v : Byte)
    (j : Nat) :
    (s.writeTarget v (.ext i)).readTarget (.ext j) =
      if s.sameCell (.ext i) (.ext j) = true then v else s.readTarget (.ext j) := by
  have hw : s.writeTarget v (.ext i) = { s with cart := { s.cart with cram := Cells.write s.cart.cram m v } } := by
    simp only [State.writeTarget, Cart.writeExt, hm]
  have hcell : ({ s.cart with cram := Cells.write s.cart.cram m v } : Cart).extCell j = s.cart.extCell j := rfl
  rw [hw]
  simp only [State.readTarget, State.sameCell, Cart.readExt, hcell, hm]
  cases s.cart.extCell j with
  | cram n => exact (Cells.read_write ..).trans (ite_beq_comm ..)
  | _ => rfl

/-- A write to a byte of RAM, seen from any row of the address decode. -/
theorem State.readTarget_writeTarget_ram {s : State} {w : Target} (h : s.ramTarget w = true) (v : Byte) (r : Target) :
    (s.writeTarget v w).readTarget r = if s.sameCell w r = true then v else s.readTarget r := by
  cases w with
  | vram i =>
    cases r with
    | vram j => exact (Cells.read_write ..).trans (ite_beq_comm ..)
    | _ => rfl
  | oam i =>
    cases r with
    | oam j => exact (Cells.read_write ..).trans (ite_beq_comm ..)
    | io q => cases q <;> rfl
    | _ => rfl
  | wram i =>
    cases r with
    | wram j => exact (Cells.read_write ..).trans (ite_beq_comm ..)
    | _ => rfl
  | hram i =>
    cases r with
    | hram j => exact (Cells.read_write ..).trans (ite_beq_comm ..)
    | _ => rfl
  | ext i =>
    cases hm : s.cart.extCell i with
    | cram m =>
      cases r with
      | ext j => exact State.readTarget_writeTarget_ext hm v j
      | _ => simp only [State.writeTarget, Cart.writeExt, hm]; rfl
    | absent => simp only [State.ramTarget, hm] at h; cases h
    | clock n => simp only [State.ramTarget, hm] at h; cases h
  | rom | io | unmapped => cases h

/-! ### What a read depends on -/

/-- Two machines in which the overlay covers `x` alike and its row of the address decode reads alike. -/
theorem State.busRead_congr {s t : State} {x : Word} (hcovers : t.bootCovers x = s.bootCovers x)
    (himage : t.env.bootImage = s.env.bootImage)
    (hread : t.readTarget (target x) = s.readTarget (target x)) : t.busRead x = s.busRead x := by
  unfold State.busRead
  rw [hcovers, himage, hread]

theorem State.busRead_busWrite {s : State} {a x : Word} {v : Byte}
    (hcovers : (s.busWrite a v).bootCovers x = s.bootCovers x)
    (hread : (s.writeTarget v (target a)).readTarget (target x) = s.readTarget (target x)) :
    (s.busWrite a v).busRead x = s.busRead x :=
  State.busRead_congr hcovers (congrArg Env.bootImage (State.env_busWrite s a v)) hread

theorem State.bootCovers_congr {s t : State} (h : t.bus.bootEnabled = s.bus.bootEnabled) (x : Word) :
    t.bootCovers x = s.bootCovers x := by
  unfold State.bootCovers
  rw [h]

theorem State.ioWrite_bootEnabled (s : State) {q : IoReg} (h : q ≠ .bootOff) (v : Byte) :
    (s.ioWrite q v).bus.bootEnabled = s.bus.bootEnabled := by
  cases q with
  | bootOff => exact absurd rfl h
  | dma => exact congrArg Bus.bootEnabled (State.bus_oamDma _ _)
  | _ => rfl

/-- Only the latch turns the overlay off (20_memory.md R88). -/
theorem State.busWrite_bootEnabled (s : State) {a : Word} (h : target a ≠ .io .bootOff) (v : Byte) :
    (s.busWrite a v).bus.bootEnabled = s.bus.bootEnabled := by
  unfold State.busWrite
  cases ht : target a with
  | io q => exact State.ioWrite_bootEnabled s (fun hq => h (hq ▸ ht)) v
  | _ => rfl

/-- A RAM byte is above the boot overlay. -/
theorem State.sameCell_rom (s : State) (w : Target) (i : Nat) : s.sameCell w (.rom i) = false := by
  cases w <;> rfl

/-- Settles O35: under the overlay there is no RAM, and elsewhere a read is that of its row. -/
theorem ramReadAfterWrite : Obligations.RamReadAfterWrite := by
  intro s a x v h
  rw [State.ramAt_eq] at h
  have hcovers : (s.busWrite a v).bootCovers x = s.bootCovers x :=
    State.bootCovers_congr (State.busWrite_bootEnabled s (fun ht => by rw [ht] at h; cases h) v) x
  have hread := State.readTarget_writeTarget_ram h v (target x)
  by_cases hsame : s.sameByte a x = true
  · rw [if_pos hsame]
    have hhigh : s.bootCovers x = false := by
      rw [← Bool.not_eq_true, State.bootCovers_iff]
      rintro ⟨-, hlt⟩
      rw [State.sameByte, target_rom (a := x) (by omega), State.sameCell_rom] at hsame
      cases hsame
    rw [State.busRead_uncovered (hcovers.trans hhigh)]
    exact hread.trans (if_pos hsame)
  · rw [if_neg hsame]
    exact State.busRead_busWrite hcovers (hread.trans (if_neg hsame))

/-! ### The cartridge's own rows -/

/-- A bank-controller write leaves every byte of the image and every row outside the two windows. -/
theorem State.busRead_busWrite_rom (s : State) {a x : Word} (v : Byte) (ha : a.toNat < 0x8000)
    (hrom : ¬(0x4000 ≤ x.toNat ∧ x.toNat < 0x8000)) (hext : ¬(0xA000 ≤ x.toNat ∧ x.toNat < 0xC000)) :
    (s.busWrite a v).busRead x = s.busRead x := by
  have hsame := Cart.writeRom_same s.env.rtcNow s.cart a.toNat v
  rw [State.busWrite_rom s v ha]
  refine State.busRead_congr rfl rfl ?_
  have hi := target_index x
  cases ht : target x with
  | rom i =>
    rw [ht] at hi
    obtain ⟨rfl, hlt⟩ : i = x.toNat ∧ i < 0x8000 := hi
    simp only [State.readTarget, Cart.readRom, Cart.romIndex_fixed _ (show x.toNat < 0x4000 by omega), Cart.imageByte,
      hsame.image, hsame.imageSize]
  | ext i =>
    rw [ht] at hi
    replace hi : x.toNat = 0xA000 + i ∧ i < 0x2000 := hi
    omega
  | _ => rfl

/-- A write to the external window that is not a RAM byte is discarded or goes to the live clock, and a read gives the
latched one (21_cartridge.md R138, R140). -/
theorem State.busRead_busWrite_ext (s : State) {a x : Word} {i : Nat} (v : Byte) (ha : target a = .ext i)
    (hram : s.ramTarget (.ext i) = false) : (s.busWrite a v).busRead x = s.busRead x := by
  rw [State.busWrite_target ha]
  simp only [State.writeTarget, Cart.writeExt]
  cases hm : s.cart.extCell i with
  | cram m => simp only [State.ramTarget, hm] at hram; cases hram
  | absent => rfl
  | clock n => rfl

/-! ### Registers -/

/-- A write to DIV touches the counter, TIMA and its reload (60_exceptions.md R435). -/
theorem Timer.writeDiv_frame (t : Timer) : t.writeDiv.tma = t.tma ∧ t.writeDiv.tac = t.tac := by
  unfold Timer.writeDiv Timer.timaInc
  split_ifs <;> exact ⟨rfl, rfl⟩

/-- A register reads as before unless it is the one written, or TIMA when DIV is (60_exceptions.md R435). LY ignores the
write, and the latch always reads 0xFF. -/
theorem State.ioRead_ioWrite (s : State) {q r : IoReg} (v : Byte) (hself : r = q → q = .ly ∨ q = .bootOff)
    (hdiv : ¬(q = .div ∧ r = .tima)) : (s.ioWrite q v).ioRead r = s.ioRead r := by
  by_cases hq : r = q
  · rcases hself hq with rfl | rfl
    · rfl
    · rw [State.ioWrite_bootOff, hq]
      rfl
  cases q with
  | bootOff => rw [State.ioWrite_bootOff]; cases r <;> rfl
  | dma =>
    show (State.oamDma _ v).ioRead r = _
    rw [State.oamDma_eq]
    cases r with
    | dma => exact absurd rfl hq
    | _ => rfl
  | div =>
    obtain ⟨htma, htac⟩ := Timer.writeDiv_frame s.timer
    cases r with
    | div => exact absurd rfl hq
    | tima => exact absurd ⟨rfl, rfl⟩ hdiv
    | tma => exact htma
    | tac => exact htac
    | _ => rfl
  | _ => cases r <;> first | rfl | exact absurd rfl hq

/-- A register write leaves every byte of memory, but for the copy into OAM (20_memory.md R90). -/
theorem State.readTarget_ioWrite (s : State) {q : IoReg} {r : Target} (v : Byte) (hio : ∀ k, r ≠ .io k)
    (hdma : q = .dma → ∀ i, r ≠ .oam i) : (s.ioWrite q v).readTarget r = s.readTarget r := by
  cases q with
  | bootOff =>
    rw [State.ioWrite_bootOff]
    cases r <;> rfl
  | dma =>
    show (State.oamDma _ v).readTarget r = _
    rw [State.oamDma_eq]
    cases r with
    | oam i => exact absurd rfl (hdma rfl i)
    | io k => exact absurd rfl (hio k)
    | _ => rfl
  | _ =>
    cases r with
    | io k => exact absurd rfl (hio k)
    | _ => rfl

/-- What lies outside the reach of a register write: the register itself, but for LY and the latch; TIMA for DIV, OAM
for DMA, and the overlaid page for the latch. -/
theorem State.reaches_io {s : State} {a x : Word} {q : IoReg} (ha : target a = .io q) (h : s.reaches a x = false) :
    (∀ r, target x = .io r → (r = q → q = .ly ∨ q = .bootOff) ∧ ¬(q = .div ∧ r = .tima)) ∧
      (q = .dma → ∀ i, target x ≠ .oam i) ∧ (q = .bootOff → 0x100 ≤ x.toNat) := by
  obtain rfl := addr_of_target ha
  refine ⟨fun r hr => ?_, ?_, ?_⟩
  · obtain rfl := addr_of_target hr
    refine ⟨?_, ?_⟩
    · rintro rfl
      cases r with
      | ly => exact .inl rfl
      | bootOff => exact .inr rfl
      | _ => cases h
    · rintro ⟨rfl, rfl⟩
      cases h
  · rintro rfl i hi
    have hx := target_index x
    rw [hi] at hx
    replace hx : x.toNat = 0xFE00 + i ∧ i < 160 := hx
    replace h : (x == 0xFF46 || (decide (0xFE00 ≤ x.toNat) && decide (x.toNat < 0xFEA0))) = false := h
    simp only [Bool.or_eq_false_iff, Bool.and_eq_false_iff, decide_eq_false_iff_not] at h
    omega
  · rintro rfl
    replace h : decide (x.toNat < 0x100) = false := h
    exact not_lt.mp (of_decide_eq_false h)

theorem State.busRead_busWrite_io {s : State} {a x : Word} {q : IoReg} (v : Byte) (ha : target a = .io q)
    (h : s.reaches a x = false) : (s.busWrite a v).busRead x = s.busRead x := by
  obtain ⟨hself, hdma, hboot⟩ := State.reaches_io ha h
  apply State.busRead_busWrite
  · by_cases hq : q = .bootOff
    · rw [State.bootCovers_eq_false (.inr (hboot hq)), State.bootCovers_eq_false (.inr (hboot hq))]
    · exact State.bootCovers_congr (State.busWrite_bootEnabled s (fun ht => hq (Target.io.inj (ha.symm.trans ht))) v) x
  · rw [ha]
    cases ht : target x with
    | io r =>
      obtain ⟨hne, hdiv⟩ := hself r ht
      exact State.ioRead_ioWrite s v hne hdiv
    | oam i => exact State.readTarget_ioWrite s v nofun fun hq => absurd ht (hdma hq i)
    | _ => exact State.readTarget_ioWrite s v nofun fun _ => nofun

/-! ### The reach of a write -/

theorem State.reaches_of_ramAt {s : State} {a : Word} (h : s.ramAt a = true) (x : Word) :
    s.reaches a x = s.sameByte a x := by
  rw [State.ramAt_eq] at h
  unfold State.reaches
  cases ht : target a with
  | rom | io | unmapped => rw [ht] at h; cases h
  | _ => rfl

/-- Settles O36, row by row of the address decode. -/
theorem writeReach : Obligations.WriteReach := by
  intro s a x v h
  by_cases hram : s.ramAt a = true
  · rw [State.reaches_of_ramAt hram] at h
    rw [ramReadAfterWrite s a x v hram, if_neg (Bool.not_eq_true _ ▸ h)]
  · rw [State.ramAt_eq, Bool.not_eq_true] at hram
    cases ht : target a with
    | rom i =>
      have ha := target_index a
      rw [ht] at ha
      obtain ⟨rfl, ha⟩ : i = a.toNat ∧ i < 0x8000 := ha
      unfold State.reaches at h
      rw [ht] at h
      simp only [Bool.or_eq_false_iff, Bool.and_eq_false_iff, decide_eq_false_iff_not] at h
      exact State.busRead_busWrite_rom s v ha (by omega) (by omega)
    | ext i => exact State.busRead_busWrite_ext s v ht (ht ▸ hram)
    | io q => exact State.busRead_busWrite_io v ht h
    | unmapped => rw [State.busWrite_target ht]; rfl
    | vram | oam | wram | hram => rw [ht] at hram; cases hram

/-! ### The frame of an instruction -/

/-- Writes none of which reaches an address leave it as it is. -/
theorem State.busRead_busWrites {s : State} {x : Word} {l : List (Word × Byte)} (h : s.outOfReach x l) :
    (s.busWrites l).busRead x = s.busRead x := by
  induction l generalizing s with
  | nil => rfl
  | cons w l ih =>
    obtain ⟨hw, hrest⟩ := h
    exact (ih hrest).trans (writeReach s w.1 x w.2 hw)

/-- Settles O34: the instruction's effect outside the CPU is its bus writes, and a read does not look at the CPU. -/
theorem memoryFrame : Obligations.MemoryFrame := fun i s t x h hout =>
  calc t.busRead x = State.busRead { t with cpu := s.cpu, cycles := s.cycles } x := rfl
    _ = (s.busWrites (i.stores s)).busRead x := by rw [effectIsItsBusWrites i s t h]
    _ = s.busRead x := State.busRead_busWrites hout

end Sys2Proof.Machine
end

section
/-!
PROOFS. What can only go one way: the boot overlay, the serial sink, the cartridge's constants, the launch parameters,
the frame count and the clock (20_memory.md R84, R88; 21_cartridge.md R110, R141; 61_ppu.md R505).
-/

namespace Sys2Proof.Machine

/-- `t` can come after `s`. -/
structure State.Onward (s t : State) : Prop where
  overlay : s.bus.bootEnabled = false → t.bus.bootEnabled = false
  sink : s.bus.serialSink <+: t.bus.serialSink
  cartridge : s.cart.SameCartridge t.cart
  bootImage : t.env.bootImage = s.env.bootImage
  stop : t.env.stop = s.env.stop
  frames : s.ppu.frames ≤ t.ppu.frames
  now : s.env.rtcNow ≤ t.env.rtcNow

/-- The CPU, the interrupts, the timer and the cycle count do not matter. -/
theorem State.Onward.of_eq {s t : State} (hbus : t.bus = s.bus) (hcart : t.cart = s.cart) (henv : t.env = s.env)
    (hframes : s.ppu.frames ≤ t.ppu.frames) : s.Onward t :=
  ⟨fun hoff => hbus ▸ hoff, hbus ▸ List.prefix_rfl, hcart ▸ .refl _, henv ▸ rfl, henv ▸ rfl, hframes, henv ▸ le_rfl⟩

theorem State.Onward.refl (s : State) : s.Onward s := .of_eq rfl rfl rfl le_rfl

theorem State.Onward.trans {s t u : State} (h : s.Onward t) (h' : t.Onward u) : s.Onward u where
  overlay := h'.overlay ∘ h.overlay
  sink := h.sink.trans h'.sink
  cartridge := h.cartridge.trans h'.cartridge
  bootImage := h'.bootImage.trans h.bootImage
  stop := h'.stop.trans h.stop
  frames := h.frames.trans h'.frames
  now := h.now.trans h'.now

/-! ### A bus write -/

/-- What bus writes do to the overlay, the serial sink and the frame count. -/
theorem State.ioWrite_onward (s : State) (q : IoReg) (v : Byte) :
    (s.bus.bootEnabled = false → (s.ioWrite q v).bus.bootEnabled = false) ∧
      s.bus.serialSink <+: (s.ioWrite q v).bus.serialSink ∧ (s.ioWrite q v).ppu.frames = s.ppu.frames := by
  cases q with
  | sc =>
    rw [State.ioWrite_sc]
    exact ⟨id, List.prefix_append _ _, rfl⟩
  | bootOff =>
    rw [State.ioWrite_bootOff]
    exact ⟨fun hoff => by rw [hoff, Bool.false_and], List.prefix_rfl, rfl⟩
  | dma =>
    show (_ → (State.oamDma _ v).bus.bootEnabled = _) ∧ _ <+: (State.oamDma _ v).bus.serialSink ∧
      (State.oamDma _ v).ppu.frames = _
    rw [State.oamDma_eq]
    exact ⟨id, List.prefix_rfl, rfl⟩
  | _ => exact ⟨id, List.prefix_rfl, rfl⟩

theorem State.busWrite_onward (s : State) (a : Word) (v : Byte) : s.Onward (s.busWrite a v) := by
  have hrest : (s.bus.bootEnabled = false → (s.busWrite a v).bus.bootEnabled = false) ∧
      s.bus.serialSink <+: (s.busWrite a v).bus.serialSink ∧ (s.busWrite a v).ppu.frames = s.ppu.frames := by
    unfold State.busWrite
    cases target a with
    | io q => exact State.ioWrite_onward s q v
    | _ => exact ⟨id, List.prefix_rfl, rfl⟩
  obtain ⟨hoverlay, hsink, hframes⟩ := hrest
  have henv := State.env_busWrite s a v
  exact ⟨hoverlay, hsink, State.busWrite_same s a v, congrArg _ henv, congrArg _ henv, hframes.ge,
    (congrArg Env.rtcNow henv).ge⟩

/-! ### The host's turn and the devices' tick -/

theorem State.hostTurn_onward (s : State) : s.Onward s.hostTurn := by
  obtain ⟨-, -, hppu, hbus, hcart, himage, hstop, hnow⟩ := State.hostTurn_frame s
  exact ⟨fun hoff => hbus ▸ hoff, hbus ▸ List.prefix_rfl, hcart ▸ .refl _, himage, hstop, hppu ▸ le_rfl, hnow⟩

/-- A frame is published at the end of V-blank and none is taken back (61_ppu.md R505). -/
theorem State.frames_leaveMode (s : State) : s.ppu.frames ≤ s.leaveMode.ppu.frames := by
  rcases mode_cases s.ppu.mode with hm | hm | hm | hm
  · rw [State.leaveMode_hblank hm]
    exact (State.setLy_frames s _).ge
  · rw [State.leaveMode_vblank hm]
    split
    · exact (State.setLy_frames s 0).ge.trans (Nat.le_succ _)
    · exact (State.setLy_frames s _).ge
  · rw [State.leaveMode_scan hm]
    exact le_rfl
  · rw [State.leaveMode_transfer hm]
    exact le_rfl

theorem State.frames_ppuStep (s : State) (c : Nat) : s.ppu.frames ≤ (s.ppuStep c).ppu.frames := by
  rw [State.ppuStep_eq]
  exact State.ppuStep_induct (P := fun t => s.ppu.frames ≤ t.ppu.frames)
    (fun t _ ht => ht.trans (State.frames_leaveMode t)) le_rfl

theorem State.frames_tickDevices (s : State) : s.ppu.frames ≤ s.tickDevices.ppu.frames := by
  unfold State.tickDevices
  split
  · exact le_rfl
  · next c _ =>
    have htimer := (State.timerTick_frame s c).2.1
    exact (congrArg Ppu.frames htimer).ge.trans (State.frames_ppuStep (s.timerTick c) c)

theorem State.tickDevices_onward (s : State) : s.Onward s.tickDevices := by
  obtain ⟨-, hbus, hcart, henv, -⟩ := State.tickDevices_frame s
  exact .of_eq hbus hcart henv (State.frames_tickDevices s)

/-! ### A step -/

theorem step_onward {s t : State} (h : step s = .next t) : s.Onward t :=
  step_keeps (P := s.Onward) (fun _ _ hu => hu.trans (.of_eq rfl rfl rfl le_rfl))
    (fun _ _ hu => hu.trans (.of_eq rfl rfl rfl le_rfl)) (fun _ _ hu => hu.trans (.of_eq rfl rfl rfl le_rfl))
    (fun u a v hu => hu.trans (State.busWrite_onward u a v)) (fun u hu => hu.trans (State.hostTurn_onward u))
    (fun u hu => hu.trans (State.tickDevices_onward u)) (.refl s) h

/-- Settles O56: bus writes, the host's turn and the devices' tick all go onward, and the rest of a step touches only the
CPU, IF and IE and the cycle count. -/
theorem oneWayState : Obligations.OneWayState := by
  intro s t h
  obtain ⟨hoverlay, hsink, hcart, hboot, hstop, hframes, hnow⟩ := step_onward h
  obtain ⟨himage, hsize, hvariant, hrtc, hbanks, hram⟩ := hcart
  exact ⟨hoverlay, hsink, himage, hsize, hvariant, hrtc, hbanks, hram, hboot, hstop, hframes, hnow⟩

end Sys2Proof.Machine
end

section
/-!
PROOFS. The cartridge: the registers of the bank controllers, the external window and the real-time clock of type 3
(21_cartridge.md).
-/

namespace Sys2Proof.Machine

/-! ### Masks and bits of the byte written -/

/-- Masking with the low `n` bits set takes the remainder modulo `2 ^ n`. -/
theorem and_lowMask (v : Byte) {n : Nat} (hn : n ≤ 8) :
    v &&& BitVec.ofNat 8 (2 ^ n - 1) = BitVec.ofNat 8 (v.toNat % 2 ^ n) := by
  have hpow : 2 ^ n ≤ 2 ^ 8 := Nat.pow_le_pow_right (by decide) hn
  have hmask : (BitVec.ofNat 8 (2 ^ n - 1)).toNat = 2 ^ n - 1 := Nat.mod_eq_of_lt (by omega)
  have hrest : v.toNat % 2 ^ n < 2 ^ 8 := (Nat.mod_le _ _).trans_lt v.isLt
  apply BitVec.eq_of_toNat_eq
  rw [BitVec.toNat_and, hmask, Nat.and_two_pow_sub_one_eq_mod, BitVec.toNat_ofNat, Nat.mod_eq_of_lt hrest]

theorem bit0_eq (v : Byte) : v.getLsbD 0 = decide (v.toNat % 2 = 1) := by
  rw [← BitVec.testBit_toNat, Nat.testBit_zero]

theorem and_topBit (v : Byte) : v &&& 0x80 = if 128 ≤ v.toNat then 0x80 else 0 := by
  have hbit : v.getLsbD 7 = decide (128 ≤ v.toNat) := (BitVec.msb_eq_getLsbD_last v).symm.trans (BitVec.msb_eq_decide v)
  calc v &&& 0x80 = if v.getLsbD 7 then 0x80 else 0 := BitVec.and_twoPow v 7
    _ = if 128 ≤ v.toNat then 0x80 else 0 := by rw [hbit]; simp only [decide_eq_true_eq]

theorem ramEnableOf_eq (v : Byte) : ramEnableOf v = decide (v.toNat % 16 = 10) := by
  have hnibble : v &&& 0x0F = BitVec.ofNat 8 (v.toNat % 16) := and_lowMask v (n := 4) (by decide)
  rw [ramEnableOf, hnibble, Bool.eq_iff_iff, beq_iff_eq, decide_eq_true_eq, BitVec.toNat_eq, BitVec.toNat_ofNat]
  show v.toNat % 16 % 256 = 10 ↔ _
  omega

theorem romBankOf_lowMask (v : Byte) {n : Nat} (hn : n ≤ 7) :
    romBankOf (BitVec.ofNat 8 (2 ^ n - 1)) v =
      if v.toNat % 2 ^ n = 0 then 1 else BitVec.ofNat 7 (v.toNat % 2 ^ n) := by
  have hpow : 2 ^ n ≤ 2 ^ 7 := Nat.pow_le_pow_right (by decide) hn
  have hrest : v.toNat % 2 ^ n < 2 ^ 7 := (Nat.mod_lt _ (Nat.two_pow_pos n)).trans_le hpow
  have hbits : (BitVec.ofNat 8 (v.toNat % 2 ^ n)).setWidth 7 = BitVec.ofNat 7 (v.toNat % 2 ^ n) := by
    apply BitVec.eq_of_toNat_eq
    rw [BitVec.toNat_setWidth, BitVec.toNat_ofNat, BitVec.toNat_ofNat]
    omega
  have hzero : BitVec.ofNat 7 (v.toNat % 2 ^ n) = 0 ↔ v.toNat % 2 ^ n = 0 := by
    rw [BitVec.toNat_eq, BitVec.toNat_ofNat, Nat.mod_eq_of_lt hrest]
    rfl
  rw [romBankOf, and_lowMask v (by omega), hbits]
  simp only [hzero]

theorem romBankOf_type1 (v : Byte) :
    romBankOf 0x1F v = if v.toNat % 32 = 0 then 1 else BitVec.ofNat 7 (v.toNat % 32) :=
  romBankOf_lowMask v (n := 5) (by decide)

theorem romBankOf_type3 (v : Byte) :
    romBankOf 0x7F v = if v.toNat % 128 = 0 then 1 else BitVec.ofNat 7 (v.toNat % 128) :=
  romBankOf_lowMask v (n := 7) (by decide)

/-! ### A write to the bank controller -/

theorem Cart.writeRom_type0 {k : Cart} (h : k.variant = .type0) (now a : Nat) (v : Byte) : k.writeRom now a v = k := by
  rw [Cart.writeRom, h]

theorem Cart.writeRom_type1 {k : Cart} (h : k.variant = .type1) (now a : Nat) (v : Byte) :
    k.writeRom now a v = k.writeType1 a v := by
  rw [Cart.writeRom, h]

theorem Cart.writeRom_type3 {k : Cart} (h : k.variant = .type3) (now a : Nat) (v : Byte) :
    k.writeRom now a v = k.writeType3 now a v := by
  rw [Cart.writeRom, h]

/-- A write to the latch window that is not 0x01 after 0x00 with a clock only remembers its byte (21_cartridge.md R134,
R136). -/
theorem Cart.writeLatch_idle {k : Cart} {v : Byte} (h : k.hasRtc = false ∨ k.latchPrev ≠ 0x00 ∨ v ≠ 0x01) (now : Nat) :
    k.writeLatch now v = { k with latchPrev := v } := by
  have hoff : ¬(k.latchPrev = 0x00 ∧ v = 0x01 ∧ k.hasRtc = true) := by
    rintro ⟨hprev, hv, hrtc⟩
    rcases h with h | h | h
    · cases h.symm.trans hrtc
    · exact h hprev
    · exact h hv
  rw [Cart.writeLatch, if_neg hoff]

/-- 0x01 after 0x00 runs the latch (21_cartridge.md R134). -/
theorem Cart.writeLatch_runs {k : Cart} (hrtc : k.hasRtc = true) (hprev : k.latchPrev = 0x00) (now : Nat) :
    k.writeLatch now 0x01 = { k with rtcLatched := (k.latchRtc now).rtcLatched, latchPrev := 0x01 } := by
  rw [Cart.writeLatch, if_pos ⟨hprev, rfl, hrtc⟩]
  rfl

/-- On a type-3 cartridge the window 0x6000 to 0x7FFF is the latch control (21_cartridge.md R134). -/
theorem State.busWrite_latch {s : State} {a : Word} (h : s.cart.variant = .type3) (lo : 0x6000 ≤ a.toNat)
    (hi : a.toNat < 0x8000) (v : Byte) :
    s.busWrite a v = { s with cart := s.cart.writeLatch s.env.rtcNow v } := by
  rw [State.busWrite_rom s v hi, Cart.writeRom_type3 h, Cart.writeType3, if_neg (by omega), if_neg (by omega),
    if_neg (by omega)]

/-! ### The effective bank -/

theorem Cart.effRomBank_type0 {k : Cart} (h : k.variant = .type0) : k.effRomBank = 1 := by
  rw [Cart.effRomBank, h]

theorem Cart.effRomBank_type3 {k : Cart} (h : k.variant = .type3) :
    k.effRomBank = k.romBankReg.toNat % k.romBanks := by
  rw [Cart.effRomBank, h]

theorem Cart.effRomBank_type1_rom {k : Cart} (h : k.variant = .type1) (hmode : k.bankMode = false)
    (hrom : k.romBankReg.toNat < 32) (hsec : k.secReg.toNat < 4) :
    k.effRomBank = (32 * k.secReg.toNat + k.romBankReg.toNat) % k.romBanks := by
  rw [Cart.effRomBank, h]
  simp only [hmode, Nat.mod_eq_of_lt hrom, Nat.mod_eq_of_lt hsec, Nat.mul_comm 32, Bool.false_eq_true, if_false]

theorem Cart.effRomBank_type1_ram {k : Cart} (h : k.variant = .type1) (hmode : k.bankMode = true)
    (hrom : k.romBankReg.toNat < 32) : k.effRomBank = k.romBankReg.toNat % k.romBanks := by
  rw [Cart.effRomBank, h]
  simp only [hmode, Nat.mod_eq_of_lt hrom, if_true]

/-- Settles O42, window by window. -/
theorem bankControllers : Obligations.BankControllers := by
  refine ⟨fun s a v h => ?_, fun s a v => ⟨fun h => ?_, fun h => ⟨Cart.effRomBank_type0 h, fun ha => ?_⟩⟩⟩
  · have write (ha : a.toNat < 0x8000) : s.busWrite a v = { s with cart := s.cart.writeType1 a.toNat v } := by
      rw [State.busWrite_rom s v ha, Cart.writeRom_type1 h]
    refine ⟨fun hi => ?_, fun lo hi => ?_, fun lo hi => ?_, fun lo hi => ?_, fun hok hmode => ?_, fun hok hmode => ?_⟩
    · rw [write (by omega), Cart.writeType1, if_pos hi, ramEnableOf_eq]
    · rw [write (by omega), Cart.writeType1, if_neg (by omega), if_pos hi, romBankOf_type1]
    · have hsec : v &&& 0x03 = BitVec.ofNat 8 (v.toNat % 4) := and_lowMask v (n := 2) (by decide)
      rw [write (by omega), Cart.writeType1, if_neg (by omega), if_neg (by omega), if_pos hi, hsec]
    · rw [write hi, Cart.writeType1, if_neg (by omega), if_neg (by omega), if_neg (by omega), bit0_eq]
    · obtain ⟨-, hregs, -⟩ := hok
      obtain ⟨hrom, hsec⟩ := hregs h
      exact Cart.effRomBank_type1_rom h hmode hrom hsec
    · obtain ⟨-, hregs, -⟩ := hok
      obtain ⟨hrom, -⟩ := hregs h
      exact Cart.effRomBank_type1_ram h hmode hrom
  · have write (ha : a.toNat < 0x8000) :
        s.busWrite a v = { s with cart := s.cart.writeType3 s.env.rtcNow a.toNat v } := by
      rw [State.busWrite_rom s v ha, Cart.writeRom_type3 h]
    refine ⟨fun hi => ?_, fun lo hi => ?_, fun lo hi => ?_, fun lo hi hidle => ?_, Cart.effRomBank_type3 h⟩
    · rw [write (by omega), Cart.writeType3, if_pos hi, ramEnableOf_eq]
    · rw [write (by omega), Cart.writeType3, if_neg (by omega), if_pos hi, romBankOf_type3]
    · rw [write (by omega), Cart.writeType3, if_neg (by omega), if_neg (by omega), if_pos hi]
    · rw [State.busWrite_latch h lo hi, Cart.writeLatch_idle hidle]
  · rw [State.busWrite_rom s v ha, Cart.writeRom_type0 h]

/-! ### The external window -/

theorem Cart.extCell_type0 {k : Cart} (h : k.variant = .type0) (off : Nat) :
    k.extCell off = if k.ramSize = 0 then .absent else .cram (off % k.ramSize) := by
  rw [Cart.extCell, h]

theorem Cart.extCell_type1 {k : Cart} (h : k.variant = .type1) (off : Nat) :
    k.extCell off =
      if k.ramSize = 0 ∨ k.ramEnable = false then .absent
      else .cram (((if k.bankMode then k.secReg.toNat % 4 else 0) * 0x2000 + off) % k.ramSize) := by
  rw [Cart.extCell, h]

/-- With the window of a type-3 cartridge disabled nothing stands behind it (21_cartridge.md R137, D19). -/
theorem Cart.extCell_type3_disabled {k : Cart} (h : k.variant = .type3) (hoff : k.ramEnable = false) (off : Nat) :
    k.extCell off = .absent := by
  rw [Cart.extCell, h]
  exact if_pos hoff

theorem Cart.extCell_type3_ram {k : Cart} (h : k.variant = .type3) (hon : k.ramEnable = true)
    (hsel : k.secReg.toNat ≤ 3) (off : Nat) :
    k.extCell off = if k.ramSize = 0 then .absent else .cram ((k.secReg.toNat * 0x2000 + off) % k.ramSize) := by
  rw [Cart.extCell, h]
  simp only [hon, Bool.true_eq_false, if_false, if_pos hsel]

theorem Cart.extCell_type3_clock {k : Cart} (h : k.variant = .type3) (hon : k.ramEnable = true) (hrtc : k.hasRtc = true)
    {i : Nat} (hi : i < 5) (hsel : k.secReg.toNat = 8 + i) (off : Nat) : k.extCell off = .clock i := by
  rw [Cart.extCell, h]
  simp only [hon, Bool.true_eq_false, if_false]
  rw [if_neg (by omega), if_pos ⟨hrtc, by omega, by omega⟩, hsel, Nat.add_sub_cancel_left]

/-- A selector above 3 that is no register of a clock shows nothing (21_cartridge.md R139). -/
theorem Cart.extCell_type3_outside {k : Cart} (h : k.variant = .type3) (hsel : 4 ≤ k.secReg.toNat)
    (hclock : k.secReg.toNat ≤ 7 ∨ 13 ≤ k.secReg.toNat ∨ k.hasRtc = false) (off : Nat) : k.extCell off = .absent := by
  have hnone : ¬(k.hasRtc = true ∧ 0x08 ≤ k.secReg.toNat ∧ k.secReg.toNat ≤ 0x0C) := by
    rintro ⟨hrtc, lo, hi⟩
    rcases hclock with hc | hc | hc
    · omega
    · omega
    · cases hc.symm.trans hrtc
  rw [Cart.extCell, h]
  simp only [if_neg (show ¬k.secReg.toNat ≤ 3 by omega), if_neg hnone, ite_self]

section
variable {s : State} {a : Word} (lo : 0xA000 ≤ a.toNat) (hi : a.toNat < 0xC000)
include lo hi

theorem State.busAccess_absent (h : s.cart.extCell (a.toNat - 0xA000) = .absent) (v : Byte) :
    s.busRead a = 0xFF ∧ s.busWrite a v = s := by
  rw [State.busRead_ext s lo hi, State.busWrite_ext s v lo hi, Cart.readExt, Cart.writeExt, h]
  exact ⟨rfl, rfl⟩

theorem State.busAccess_cram {i : Nat} (h : s.cart.extCell (a.toNat - 0xA000) = .cram i) (v : Byte) :
    s.busRead a = Cells.read s.cart.cram i ∧
    s.busWrite a v = { s with cart := { s.cart with cram := Cells.write s.cart.cram i v } } := by
  rw [State.busRead_ext s lo hi, State.busWrite_ext s v lo hi, Cart.readExt, Cart.writeExt, h]
  exact ⟨rfl, rfl⟩

/-- A clock register reads its latched copy and a write goes to the live one (21_cartridge.md R138, R140). -/
theorem State.busAccess_clock {i : Nat} (h : s.cart.extCell (a.toNat - 0xA000) = .clock i) (v : Byte) :
    s.busRead a = s.cart.rtcLatched.get i ∧
    s.busWrite a v = { s with cart := s.cart.writeClock s.env.rtcNow i v } := by
  rw [State.busRead_ext s lo hi, State.busWrite_ext s v lo hi, Cart.readExt, Cart.writeExt, h]
  exact ⟨rfl, rfl⟩

end

/-- Settles O43: the cases of each half give one cell of the window, and the access follows from the cell. -/
theorem externalWindow : Obligations.ExternalWindow := by
  refine ⟨fun s a v lo hi h => ?_, fun s a v bank lo hi hram h => ?_⟩
  · suffices habsent : s.cart.extCell (a.toNat - 0xA000) = .absent from State.busAccess_absent lo hi habsent v
    rcases h with ⟨h0, hram⟩ | ⟨h1, hoff⟩ | ⟨h3, hnone⟩
    · rw [Cart.extCell_type0 h0, if_pos hram]
    · rw [Cart.extCell_type1 h1, if_pos hoff]
    · rcases hnone with hoff | ⟨hsel, hram⟩ | ⟨lo4, hi7⟩ | hhigh | ⟨lo8, hrtc⟩
      · exact Cart.extCell_type3_disabled h3 hoff _
      · cases hon : s.cart.ramEnable with
        | false => exact Cart.extCell_type3_disabled h3 hon _
        | true => rw [Cart.extCell_type3_ram h3 hon hsel, if_pos hram]
      · exact Cart.extCell_type3_outside h3 lo4 (.inl hi7) _
      · exact Cart.extCell_type3_outside h3 (by omega) (.inr (.inl hhigh)) _
      · exact Cart.extCell_type3_outside h3 (by omega) (.inr (.inr hrtc)) _
  · suffices hcell : s.cart.extCell (a.toNat - 0xA000) =
        .cram ((0x2000 * bank + (a.toNat - 0xA000)) % s.cart.ramSize) from State.busAccess_cram lo hi hcell v
    rw [Nat.mul_comm]
    rcases h with ⟨h0, rfl⟩ | ⟨h1, hon, hmode, rfl⟩ | ⟨h1, hon, hmode, rfl⟩ | ⟨h3, hon, hsel, rfl⟩
    · rw [Cart.extCell_type0 h0, if_neg hram, Nat.zero_mul, Nat.zero_add]
    · rw [Cart.extCell_type1 h1, if_neg (by simp [hram, hon]), if_neg (by simp [hmode])]
    · rw [Cart.extCell_type1 h1, if_neg (by simp [hram, hon]), if_pos hmode]
    · rw [Cart.extCell_type3_ram h3 hon hsel, if_neg hram]

/-! ### The real-time clock -/

theorem Cart.latchRtc_halted {k : Cart} (h : k.rtcLive.dayHigh.getLsbD 6 = true) (now : Nat) :
    (k.latchRtc now).rtcLatched = k.rtcLive := if_pos h

theorem Cart.latchRtc_running {k : Cart} (h : k.rtcLive.dayHigh.getLsbD 6 = false) (now : Nat) :
    (k.latchRtc now).rtcLatched = k.rtcLive.advanced (now - k.rtcBase) :=
  if_neg (Bool.eq_false_iff.mp h)

/-- The time of the registers in seconds, `elapsed` seconds later (21_cartridge.md R135). -/
def Rtc.secondsAfter (r : Rtc) (elapsed : Nat) : Nat :=
  r.seconds.toNat + 60 * r.minutes.toNat + 3600 * r.hours.toNat +
    86400 * (r.dayLow.toNat + 256 * (r.dayHigh.toNat % 2)) + elapsed

/-- Day-high of a latch: the carry, which stays once set, over bit 8 of the day counter (21_cartridge.md R135, R142). -/
theorem toNat_dayHigh (v : Byte) (overflow : Prop) [Decidable overflow] {b : Nat} (hb : b < 2) :
    ((v &&& 0x80) ||| (if overflow then 0x80 else 0) ||| BitVec.ofNat 8 b).toNat =
      (if 128 ≤ v.toNat ∨ overflow then 128 else 0) + b := by
  have hcarry : (v &&& 0x80) ||| (if overflow then 0x80 else 0) = if 128 ≤ v.toNat ∨ overflow then 0x80 else 0 := by
    rw [and_topBit]
    by_cases hv : 128 ≤ v.toNat
    · simp only [hv, true_or, if_true]
      split <;> rfl
    · simp only [hv, false_or, if_false]
      exact BitVec.zero_or
  have hbit : b = 0 ∨ b = 1 := by omega
  rw [hcarry]
  rcases hbit with rfl | rfl
  · split <;> rfl
  · split <;> rfl

theorem Rtc.advanced_toNat (r : Rtc) (elapsed : Nat) :
    let total := r.secondsAfter elapsed
    let days := total / 86400
    (r.advanced elapsed).seconds.toNat = total % 60 ∧ (r.advanced elapsed).minutes.toNat = total / 60 % 60 ∧
    (r.advanced elapsed).hours.toNat = total / 3600 % 24 ∧ (r.advanced elapsed).dayLow.toNat = days % 256 ∧
    (r.advanced elapsed).dayHigh.toNat =
      (if 128 ≤ r.dayHigh.toNat ∨ 511 < days then 128 else 0) + days / 256 % 2 := by
  intro total days
  have hday : (r.dayHigh &&& 1).toNat = r.dayHigh.toNat % 2 := Nat.and_two_pow_sub_one_eq_mod r.dayHigh.toNat 1
  have byte {n : Nat} (hn : n < 256) : (BitVec.ofNat 8 n).toNat = n := Nat.mod_eq_of_lt hn
  rw [Rtc.advanced, hday]
  exact ⟨byte (by omega), byte (by omega), byte (by omega), byte (by omega), toNat_dayHigh _ _ (by omega)⟩

/-- Settles O44: the latch and the clock registers are windows of the bank controller and of the external window. -/
theorem realTimeClock : Obligations.RealTimeClock := by
  intro s a v h hrtc
  refine ⟨fun lo hi hprev hv => ?_, fun lo hi hidle => ?_, fun lo hi hon i hlt hsel => ?_⟩
  · subst hv
    refine ⟨_, ?_, fun hhalt => Cart.latchRtc_halted hhalt s.env.rtcNow, fun hrun _ => ?_⟩
    · rw [State.busWrite_latch h lo hi, Cart.writeLatch_runs hrtc hprev]
    · rw [Cart.latchRtc_running hrun]
      exact Rtc.advanced_toNat s.cart.rtcLive (s.env.rtcNow - s.cart.rtcBase)
  · rw [State.busWrite_latch h lo hi, Cart.writeLatch_idle (.inr hidle)]
  · exact State.busAccess_clock lo hi (Cart.extCell_type3_clock h hon hrtc hlt hsel _) v

end Sys2Proof.Machine
end

section
/-!
PROOFS. The decoder and the encoder invert each other (30_encoding.md R160 to R173): the encoder agrees with the two
opcode maps of R169 and R171 entry by entry, and every form of instruction stands in them where its fields say (R165).
-/

namespace Sys2Proof

/-! ### The opcode maps, entry by entry -/

/-- A property of every row and column of an opcode map is one of every byte. -/
theorem Byte.forall_rowCol {P : Byte → Prop} (h : ∀ row col : Fin 16, P (.ofNat 8 (16 * row + col))) (op : Byte) :
    P op := by
  have hop := h ⟨op.toNat / 16, by omega⟩ ⟨op.toNat % 16, by omega⟩
  rwa [Nat.div_add_mod, BitVec.ofNat_toNat, BitVec.setWidth_eq] at hop

/-- The encoder writes the instruction that an entry makes of an immediate `b` or `w` as the opcode byte `op` and the
immediate, low byte first; the entry that leads to the second map belongs to 0xCB. -/
def Entry.Encodes (e : Entry) (op b : Byte) (w : Word) : Prop :=
  match e with
  | .op i => encode i = [op]
  | .imm8 f => encode (f b) = [op, b]
  | .imm16 f => encode (f w) = [op, w.lo, w.hi]
  | .cb => op = 0xCB

theorem opEntry_encodes (op b : Byte) (w : Word) : (opEntry op).Encodes op b w := by
  induction op using Byte.forall_rowCol with
  | h row col => fin_cases row <;> fin_cases col <;> rfl

theorem encode_op {op : Byte} {i : Instr} (h : opEntry op = .op i) : encode i = [op] := by
  simpa only [h, Entry.Encodes] using opEntry_encodes op 0 0

theorem encode_imm8 {op : Byte} {f : Byte → Instr} (h : opEntry op = .imm8 f) (b : Byte) :
    encode (f b) = [op, b] := by
  simpa only [h, Entry.Encodes] using opEntry_encodes op b 0

theorem encode_imm16 {op : Byte} {f : Word → Instr} (h : opEntry op = .imm16 f) (w : Word) :
    encode (f w) = [op, w.lo, w.hi] := by
  simpa only [h, Entry.Encodes] using opEntry_encodes op 0 w

theorem eq_0xCB_of_cb {op : Byte} (h : opEntry op = .cb) : op = 0xCB := by
  simpa only [h, Entry.Encodes] using opEntry_encodes op 0 0

theorem encode_cbInstr (op2 : Byte) : encode (cbInstr op2) = [0xCB, op2] := by
  induction op2 using Byte.forall_rowCol with
  | h row col => fin_cases row <;> fin_cases col <;> rfl

/-! ### The invalid opcodes -/

/-- An invalid opcode is on the list of R172, and its entry is the instruction that is named after it. -/
theorem opEntry_of_invalidOpcode {i : Instr} {op : Byte} (h : i.invalidOpcode? = some op) :
    op ∈ invalidOpcodes ∧ opEntry op = .op i := by
  unfold Instr.invalidOpcode? at h
  split at h
  case h_12 => cases h
  all_goals cases h; exact ⟨by decide, rfl⟩

/-- The entry of an opcode on the list of R172 is an invalid instruction. -/
theorem exists_invalid_of_mem {op : Byte} (h : op ∈ invalidOpcodes) :
    ∃ i, opEntry op = .op i ∧ i.invalidOpcode? = some op := by
  simp only [invalidOpcodes, List.mem_cons, List.not_mem_nil, or_false] at h
  rcases h with rfl | rfl | rfl | rfl | rfl | rfl | rfl | rfl | rfl | rfl | rfl <;> exact ⟨_, rfl, rfl⟩

/-! ### Decode of encode -/

/-- Decoding the encoding of the instruction gives it back and leaves the bytes that follow. -/
def Instr.RoundTrips (i : Instr) : Prop := ∀ rest, decode (encode i ++ rest) = .ok (i, rest)

theorem Instr.roundTrips_op {i : Instr} (op : Byte) (h : opEntry op = .op i) : i.RoundTrips := by
  intro rest
  rw [encode_op h]
  exact decode_op h rest

theorem Instr.roundTrips_imm8 {f : Byte → Instr} (op b : Byte) (h : opEntry op = .imm8 f) : (f b).RoundTrips := by
  intro rest
  rw [encode_imm8 h]
  exact decode_imm8 h b rest

theorem Instr.roundTrips_imm16 {f : Word → Instr} (op : Byte) (w : Word) (h : opEntry op = .imm16 f) :
    (f w).RoundTrips := by
  intro rest
  rw [encode_imm16 h]
  exact decode_imm16 h w rest

theorem Instr.roundTrips_cb {i : Instr} (op2 : Byte) (h : cbInstr op2 = i) : i.RoundTrips := by
  intro rest
  rw [← h, encode_cbInstr]
  exact decode_cb op2 rest

/-- Settles O1, form by form: the place of each form in the opcode maps, by the fields of its encoding. -/
theorem decodeOfEncode : Obligations.DecodeOfEncode := by
  intro i
  induction i using Instr.forms with
  | ldRegReg dst r => exact Instr.roundTrips_op (0x40 + 8 * dst.index + r.index) (by cases dst <;> cases r <;> rfl)
  | ldRegHl dst => exact Instr.roundTrips_op (0x46 + 8 * dst.index) (by cases dst <;> rfl)
  | ldHlReg r => exact Instr.roundTrips_op (0x70 + r.index) (by cases r <;> rfl)
  | ldRegImm dst v => exact Instr.roundTrips_imm8 (0x06 + 8 * dst.index) v (by cases dst <;> rfl)
  | ldHlImm v => exact Instr.roundTrips_imm8 0x36 v rfl
  | ldAtBcA => exact Instr.roundTrips_op 0x02 rfl
  | ldAAtBc => exact Instr.roundTrips_op 0x0A rfl
  | ldAtDeA => exact Instr.roundTrips_op 0x12 rfl
  | ldAAtDe => exact Instr.roundTrips_op 0x1A rfl
  | ldAtHlIncA => exact Instr.roundTrips_op 0x22 rfl
  | ldAAtHlInc => exact Instr.roundTrips_op 0x2A rfl
  | ldAtHlDecA => exact Instr.roundTrips_op 0x32 rfl
  | ldAAtHlDec => exact Instr.roundTrips_op 0x3A rfl
  | ldhAtCA => exact Instr.roundTrips_op 0xE2 rfl
  | ldhAAtC => exact Instr.roundTrips_op 0xF2 rfl
  | ldhAtA8A n => exact Instr.roundTrips_imm8 0xE0 n rfl
  | ldhAAtA8 n => exact Instr.roundTrips_imm8 0xF0 n rfl
  | ldAtA16A a => exact Instr.roundTrips_imm16 0xEA a rfl
  | ldAAtA16 a => exact Instr.roundTrips_imm16 0xFA a rfl
  | ldPairImm p v => exact Instr.roundTrips_imm16 (0x01 + 16 * p.index) v (by cases p <;> rfl)
  | ldAtA16Sp a => exact Instr.roundTrips_imm16 0x08 a rfl
  | ldSpHl => exact Instr.roundTrips_op 0xF9 rfl
  | ldHlSpE8 e => exact Instr.roundTrips_imm8 0xF8 e rfl
  | addSpE8 e => exact Instr.roundTrips_imm8 0xE8 e rfl
  | push p => exact Instr.roundTrips_op (0xC5 + 16 * p.index) (by cases p <;> rfl)
  | pop p => exact Instr.roundTrips_op (0xC1 + 16 * p.index) (by cases p <;> rfl)
  | aluReg op r => exact Instr.roundTrips_op (0x80 + 8 * op.index + r.index) (by cases op <;> cases r <;> rfl)
  | aluHl op => exact Instr.roundTrips_op (0x86 + 8 * op.index) (by cases op <;> rfl)
  | aluImm op v => exact Instr.roundTrips_imm8 (0xC6 + 8 * op.index) v (by cases op <;> rfl)
  | incReg r => exact Instr.roundTrips_op (0x04 + 8 * r.index) (by cases r <;> rfl)
  | decReg r => exact Instr.roundTrips_op (0x05 + 8 * r.index) (by cases r <;> rfl)
  | incAtHl => exact Instr.roundTrips_op 0x34 rfl
  | decAtHl => exact Instr.roundTrips_op 0x35 rfl
  | addHl p => exact Instr.roundTrips_op (0x09 + 16 * p.index) (by cases p <;> rfl)
  | incPair p => exact Instr.roundTrips_op (0x03 + 16 * p.index) (by cases p <;> rfl)
  | decPair p => exact Instr.roundTrips_op (0x0B + 16 * p.index) (by cases p <;> rfl)
  | rlca => exact Instr.roundTrips_op 0x07 rfl
  | rrca => exact Instr.roundTrips_op 0x0F rfl
  | rla => exact Instr.roundTrips_op 0x17 rfl
  | rra => exact Instr.roundTrips_op 0x1F rfl
  | daa => exact Instr.roundTrips_op 0x27 rfl
  | cpl => exact Instr.roundTrips_op 0x2F rfl
  | scf => exact Instr.roundTrips_op 0x37 rfl
  | ccf => exact Instr.roundTrips_op 0x3F rfl
  | rotReg op r => exact Instr.roundTrips_cb (8 * op.index + r.index) (by cases op <;> cases r <;> rfl)
  | rotHl op => exact Instr.roundTrips_cb (8 * op.index + 6) (by cases op <;> rfl)
  | bitReg b r => exact Instr.roundTrips_cb (0x40 + 8 * .ofNat 8 b + r.index) (by cases r <;> fin_cases b <;> rfl)
  | bitHl b => exact Instr.roundTrips_cb (0x46 + 8 * .ofNat 8 b) (by fin_cases b <;> rfl)
  | resReg b r => exact Instr.roundTrips_cb (0x80 + 8 * .ofNat 8 b + r.index) (by cases r <;> fin_cases b <;> rfl)
  | resHl b => exact Instr.roundTrips_cb (0x86 + 8 * .ofNat 8 b) (by fin_cases b <;> rfl)
  | setReg b r => exact Instr.roundTrips_cb (0xC0 + 8 * .ofNat 8 b + r.index) (by cases r <;> fin_cases b <;> rfl)
  | setHl b => exact Instr.roundTrips_cb (0xC6 + 8 * .ofNat 8 b) (by fin_cases b <;> rfl)
  | jpA16 a => exact Instr.roundTrips_imm16 0xC3 a rfl
  | jpHl => exact Instr.roundTrips_op 0xE9 rfl
  | jpIf cc a => exact Instr.roundTrips_imm16 (0xC2 + 8 * cc.index) a (by cases cc <;> rfl)
  | jrE8 e => exact Instr.roundTrips_imm8 0x18 e rfl
  | jrIf cc e => exact Instr.roundTrips_imm8 (0x20 + 8 * cc.index) e (by cases cc <;> rfl)
  | callA16 a => exact Instr.roundTrips_imm16 0xCD a rfl
  | callIf cc a => exact Instr.roundTrips_imm16 (0xC4 + 8 * cc.index) a (by cases cc <;> rfl)
  | rst y => exact Instr.roundTrips_op (0xC7 + 8 * .ofNat 8 y) (by fin_cases y <;> rfl)
  | ret => exact Instr.roundTrips_op 0xC9 rfl
  | retIf cc => exact Instr.roundTrips_op (0xC0 + 8 * cc.index) (by cases cc <;> rfl)
  | reti => exact Instr.roundTrips_op 0xD9 rfl
  | nop => exact Instr.roundTrips_op 0x00 rfl
  | stop v => exact Instr.roundTrips_imm8 0x10 v rfl
  | halt => exact Instr.roundTrips_op 0x76 rfl
  | di => exact Instr.roundTrips_op 0xF3 rfl
  | ei => exact Instr.roundTrips_op 0xFB rfl
  | illegal i op h => exact Instr.roundTrips_op op (opEntry_of_invalidOpcode h).2

/-! ### Encode of decode -/

/-- Bytes that decode hold the instruction their first byte announces (30_encoding.md R160). -/
theorem length_le_of_decode {op : Byte} {tail : List Byte} {r : Instr × List Byte} (h : decode (op :: tail) = .ok r) :
    (opEntry op).length ≤ tail.length + 1 := by
  by_contra hlt
  simp only [decode, if_pos (Nat.lt_of_not_le hlt), reduceCtorEq] at h

/-- Settles O2, by the kind of entry that the first byte has; the length check has left enough bytes for it. -/
theorem encodeOfDecode : Obligations.EncodeOfDecode := by
  intro bytes i rest h
  cases bytes with
  | nil => cases h
  | cons op tail =>
    have hlen := length_le_of_decode h
    cases he : opEntry op with
    | op j =>
      cases (decode_op he tail).symm.trans h
      rw [encode_op he]
      rfl
    | imm8 f =>
      rw [he] at hlen
      obtain ⟨b, tail, rfl⟩ := List.exists_cons_of_length_pos (Nat.le_of_succ_le_succ hlen)
      cases (decode_imm8 he b tail).symm.trans h
      rw [encode_imm8 he]
      rfl
    | imm16 f =>
      rw [he] at hlen
      have htwo : 2 ≤ tail.length := Nat.le_of_succ_le_succ hlen
      obtain ⟨lo, tail, rfl⟩ := List.exists_cons_of_length_pos (Nat.lt_of_succ_lt htwo)
      obtain ⟨hi, tail, rfl⟩ := List.exists_cons_of_length_pos (Nat.le_of_succ_le_succ htwo)
      have hdecode := decode_imm16 he (Word.ofBytes hi lo) tail
      rw [Word.lo_ofBytes, Word.hi_ofBytes] at hdecode
      cases hdecode.symm.trans h
      rw [encode_imm16 he, Word.lo_ofBytes, Word.hi_ofBytes]
      rfl
    | cb =>
      cases eq_0xCB_of_cb he
      rw [he] at hlen
      obtain ⟨op2, tail, rfl⟩ := List.exists_cons_of_length_pos (Nat.le_of_succ_le_succ hlen)
      cases (decode_cb op2 tail).symm.trans h
      rw [encode_cbInstr]
      rfl

/-- Settles O3: the words are the encodings of the instructions, so `decodeOfEncode` decodes them. -/
theorem exampleWordsDecode : Obligations.ExampleWordsDecode :=
  ⟨decodeOfEncode (.ldBcD16 0x1234) [], decodeOfEncode .halt [], decodeOfEncode .ldBC [],
    decodeOfEncode (.jpA16 0x0150) [], decodeOfEncode (.jrNzE8 0xFB) [], decodeOfEncode (.stop 0x00) [],
    decodeOfEncode .swapA [], decodeOfEncode .bit7H [], decodeOfEncode (.ldhAtA8A 0xFF) [],
    decodeOfEncode .illegalD3 []⟩

end Sys2Proof
end

section
/-!
PROOFS. The eleven invalid opcodes and the FATAL state (30_encoding.md R172, 46_system.md R386, 60_exceptions.md R401).
-/

namespace Sys2Proof.Machine

/-! ### One instruction -/

theorem mem_invalidOpcodes_iff (op : Byte) : (∃ i : Instr, i.invalidOpcode? = some op) ↔ op ∈ invalidOpcodes := by
  constructor
  · rintro ⟨i, hi⟩
    exact (opEntry_of_invalidOpcode hi).1
  · intro hop
    obtain ⟨i, -, hi⟩ := exists_invalid_of_mem hop
    exact ⟨i, hi⟩

theorem encode_invalid {i : Instr} {op : Byte} (h : i.invalidOpcode? = some op) : encode i = [op] :=
  encode_op (opEntry_of_invalidOpcode h).2

/-! ### A step that decodes an invalid opcode -/

theorem State.dispatches_eq_false_iff (s : State) :
    s.dispatches = false ↔ s.ic.pending = 0 ∨ s.cpu.ime = false := by
  unfold State.dispatches
  rw [Bool.and_eq_false_iff, bne_eq_false_iff_eq]

theorem State.halted_wake_eq_false_iff (s : State) :
    s.wake.cpu.halted = false ↔ (s.ic.pending = 0 → s.cpu.halted = false) := by
  unfold State.wake
  split
  · next h => exact ⟨fun hh _ => hh, fun hh => hh h⟩
  · next h => exact ⟨fun _ hp => absurd hp h, fun _ => rfl⟩

/-- Part (d) on an opcode of the list of R172: PC past the byte, or at it under the halt bug, and what parts (a) and (b)
did to IME and the halt bits undone (60_exceptions.md R401, Log 27). -/
theorem State.fetchExecute_invalid {s : State} {op : Byte} (h : s.busRead s.cpu.pc = op) (hop : op ∈ invalidOpcodes)
    (before : State) :
    s.fetchExecute before =
      .next
        { s with
          cpu :=
            { s.cpu with
              pc := s.pcAfterOpcode, ime := before.cpu.ime, halted := before.cpu.halted
              haltBug := before.cpu.haltBug, fatal := true, illegalOp := some op }
          cycles := none } := by
  obtain ⟨i, hentry, hi⟩ := exists_invalid_of_mem hop
  have hfetched : s.fetchedEntry = .op i := (congrArg opEntry h).trans hentry
  have hinstr : s.fetchedInstr.invalidOpcode? = some op := by
    unfold State.fetchedInstr
    rw [hfetched]
    exact hi
  unfold State.fetchExecute
  rw [exec_illegal _ _ hinstr, State.handlerStart_invalid hinstr]
  unfold raiseIllegal State.raiseStart State.afterFetch
  have hpc : s.pcAfterOpcode + BitVec.ofNat 16 (Entry.length (.op i) - 1) = s.pcAfterOpcode := BitVec.add_zero _
  rw [hfetched, hpc]

/-- Parts (a) and (b) without a dispatch lower the EI delay and may change IME and `halted`; nothing else. -/
theorem State.exists_wake_delayedEnable (s : State) :
    ∃ ime halted, s.delayedEnable.wake =
      { s with cpu := { s.cpu with imeDelay := s.cpu.imeDelay - 1, ime := ime, halted := halted } } := by
  refine ⟨s.delayedEnable.wake.cpu.ime, s.delayedEnable.wake.cpu.halted, ?_⟩
  have hzero : s.cpu.imeDelay = 0 → s.cpu.imeDelay - 1 = s.cpu.imeDelay := fun h => by rw [h]
  unfold State.wake State.delayedEnable
  split_ifs with hdelay
  · rw [hzero hdelay]
  · rw [hzero hdelay]
  · rfl
  · rfl

/-- Part (a) does not change the byte that is fetched. -/
theorem State.busRead_pc_delayedEnable (s : State) :
    s.delayedEnable.busRead s.delayedEnable.cpu.pc = s.busRead s.cpu.pc := by
  unfold State.delayedEnable
  split <;> rfl

/-- A step whose parts (a) and (b) neither dispatch nor idle, on an opcode of the list of R172. -/
theorem step_invalid {s : State} {op : Byte} (hfatal : s.cpu.fatal = false)
    (hd : s.hostTurn.delayedEnable.dispatches = false) (hh : s.hostTurn.delayedEnable.wake.cpu.halted = false)
    (h : s.hostTurn.busRead s.hostTurn.cpu.pc = op) (hop : op ∈ invalidOpcodes) :
    step s =
      .next
        { s.hostTurn with
          cpu :=
            { s.hostTurn.cpu with
              pc := s.hostTurn.pcAfterOpcode, imeDelay := s.hostTurn.cpu.imeDelay - 1
              fatal := true, illegalOp := some op }
          cycles := none } := by
  obtain ⟨ime, halted, hwake⟩ := s.hostTurn.exists_wake_delayedEnable
  have hread : s.hostTurn.delayedEnable.wake.busRead s.hostTurn.delayedEnable.wake.cpu.pc = op := by
    rw [hwake]
    exact h
  unfold step
  rw [hfatal]
  show Result.andThen (s.hostTurn.delayedEnable.serve s.hostTurn) _ = _
  unfold State.serve
  rw [hd, hh]
  show Result.andThen (State.fetchExecute _ _) _ = _
  rw [State.fetchExecute_invalid hread hop, hwake]
  rfl

/-- Settles O26: the entries of the list of R172 are the invalid instructions, a step that decodes one raises it, and
the only stop of a machine that is not FATAL is a refusal (`step_stops`). -/
theorem invalidOpcodesAreFatal : Obligations.InvalidOpcodesAreFatal := by
  refine ⟨⟨mem_invalidOpcodes_iff, ?_⟩, ?_, ?_⟩
  · intro i op s hi
    rw [exec_illegal i op hi]
    exact ⟨encode_invalid hi, rfl, rfl⟩
  · intro s op
    rw [← State.hostTurn_eq_afterHostTurn]
    intro h u pending hfatal hdispatch hhalted hread hop
    rw [State.busRead_pc_delayedEnable] at hread
    exact step_invalid hfatal ((State.dispatches_eq_false_iff u).2 hdispatch)
      ((State.halted_wake_eq_false_iff u).2 hhalted) hread hop
  · intro s
    refine ⟨fun hfatal => ?_, fun e he => ?_⟩
    · unfold step
      rw [hfatal]
      rfl
    · rcases step_stops (s := s) (fun t ht => by cases ht.symm.trans he) with ⟨hfatal, -⟩ | ⟨-, hrefused, -⟩
      · exact hfatal
      · cases hrefused.symm.trans he

end Sys2Proof.Machine
end

section
/-!
PROOFS. The loads and stores of a byte (40_load8.md R200 to R218): the opcode byte of each form by its fields, and the
whole next state of each shared meaning.
-/

namespace Sys2Proof.Machine

/-! ### The encodings of the forms -/

theorem encode_ldRegReg (dst r : Reg8) : encode (Instr.ldRegReg dst r) = [0x40 + 8 * dst.index + r.index] := by
  cases dst <;> cases r <;> rfl

theorem encode_ldRegImm (dst : Reg8) (v : Byte) : encode (Instr.ldRegImm dst v) = [0x06 + 8 * dst.index, v] := by
  cases dst <;> rfl

theorem encode_ldRegHl (dst : Reg8) : encode (Instr.ldRegHl dst) = [0x46 + 8 * dst.index] := by
  cases dst <;> rfl

theorem encode_ldHlReg (r : Reg8) : encode (Instr.ldHlReg r) = [0x70 + r.index] := by
  cases r <;> rfl

/-! ### The next state of the shared meanings -/

/-- One bus write and nothing after it: the CPU is the old one, which the write does not touch. -/
theorem finish_busWrite (n : Nat) (s : State) (a : Word) (v : Byte) :
    finish n (s.busWrite a v) = .next { s.busWrite a v with cpu := s.cpu, cycles := some n } := by
  conv_rhs => rw [← State.cpu_busWrite s a v]
  rfl

theorem loadA_next (n : Nat) (a : Word) (s : State) :
    loadA n a s = .next { s with cpu := { s.cpu with a := s.busRead a }, cycles := some n } := rfl

theorem loadAHlStep_next (d : Word) (s : State) :
    loadAHlStep d s =
      .next { s with cpu := { s.cpu.setHl (s.cpu.hl + d) with a := s.busRead s.cpu.hl }, cycles := some 8 } := rfl

theorem storeA_next (n : Nat) (a : Word) (s : State) :
    storeA n a s = .next { s.busWrite a s.cpu.a with cpu := s.cpu, cycles := some n } :=
  finish_busWrite n s a s.cpu.a

theorem storeAHlStep_next (d : Word) (s : State) :
    storeAHlStep d s =
      .next { s.busWrite s.cpu.hl s.cpu.a with cpu := s.cpu.setHl (s.cpu.hl + d), cycles := some 8 } := by
  unfold storeAHlStep State.setPair State.writeHl
  rw [State.cpu_busWrite]
  rfl

/-! ### The obligations -/

/-- Settles O5: each form is one shared meaning, and the stores are `finish_busWrite` at HL. -/
theorem loadByteAndStoreAtHl : Obligations.LoadByteAndStoreAtHl := by
  constructor
  · intro dst r v s
    rw [exec_ldRegReg, exec_ldRegImm, exec_ldRegHl]
    exact ⟨encode_ldRegReg dst r, rfl, encode_ldRegImm dst v, rfl, encode_ldRegHl dst, rfl⟩
  · intro r v s
    rw [exec_ldHlReg, exec_ldHlImm]
    exact ⟨encode_ldHlReg r, finish_busWrite 8 s s.cpu.hl (s.cpu.reg r), rfl, finish_busWrite 12 s s.cpu.hl v⟩

/-- Settles O6: five addresses of `loadA`, and `loadAHlStep` up and down. -/
theorem loadAccumulator : Obligations.LoadAccumulator := by
  intro a n s
  rw [exec_ldAAtBc, exec_ldAAtDe, exec_ldAAtA16, exec_ldhAAtC, exec_ldhAAtA8, exec_ldAAtHlInc, exec_ldAAtHlDec,
    BitVec.sub_eq_add_neg]
  exact ⟨rfl, loadA_next 8 s.cpu.bc s, rfl, loadA_next 8 s.cpu.de s, rfl, loadA_next 16 a s,
    rfl, loadA_next 8 (highPage s.cpu.c) s, rfl, loadA_next 12 (highPage n) s,
    rfl, loadAHlStep_next 1 s, rfl, loadAHlStep_next (-1) s⟩

/-- Settles O7: five addresses of `storeA`, and `storeAHlStep` up and down. -/
theorem storeAccumulator : Obligations.StoreAccumulator := by
  intro a n s
  rw [exec_ldAtBcA, exec_ldAtDeA, exec_ldAtA16A, exec_ldhAtCA, exec_ldhAtA8A, exec_ldAtHlIncA, exec_ldAtHlDecA,
    BitVec.sub_eq_add_neg]
  exact ⟨rfl, storeA_next 8 s.cpu.bc s, rfl, storeA_next 8 s.cpu.de s, rfl, storeA_next 16 a s,
    rfl, storeA_next 8 (highPage s.cpu.c) s, rfl, storeA_next 12 (highPage n) s,
    rfl, storeAHlStep_next 1 s, rfl, storeAHlStep_next (-1) s⟩

end Sys2Proof.Machine
end

section
/-!
PROOFS. The 16-bit loads and the stack (41_load16.md R230 to R236; 43_alu16.md R303): the encodings, the whole next state
of each shared meaning, and the round trip of a PUSH and a POP through RAM.
-/

namespace Sys2Proof.Machine

/-! ### A store to RAM leaves the address map as it is -/

theorem Cart.extCell_writeExt (k : Cart) (now i : Nat) (v : Byte) (off : Nat) :
    (k.writeExt now i v).extCell off = k.extCell off := by
  unfold Cart.writeExt
  cases k.extCell i with
  | absent | cram | clock => rfl

/-- Which cell the external window shows follows from the bank registers, which no store to RAM touches (21_cartridge.md
R117, R125, R137). -/
theorem State.extCell_busWrite_ram {s : State} {a : Word} (h : s.ramAt a = true) (v : Byte) (off : Nat) :
    (s.busWrite a v).cart.extCell off = s.cart.extCell off := by
  rw [State.ramAt_eq] at h
  unfold State.busWrite
  cases ht : target a with
  | ext i => exact Cart.extCell_writeExt s.cart s.env.rtcNow i v off
  | vram | oam | wram | hram | unmapped => rfl
  | rom | io => rw [ht] at h; cases h

theorem State.ramAt_busWrite_ram {s : State} {a : Word} (h : s.ramAt a = true) (v : Byte) (x : Word) :
    (s.busWrite a v).ramAt x = s.ramAt x := by
  unfold State.ramAt
  simp only [State.extCell_busWrite_ram h]

theorem State.sameByte_busWrite_ram {s : State} {a : Word} (h : s.ramAt a = true) (v : Byte) (x y : Word) :
    (s.busWrite a v).sameByte x y = s.sameByte x y := by
  unfold State.sameByte State.sameCell
  simp only [State.extCell_busWrite_ram h]

theorem State.exists_cram_of_ramTarget_ext {s : State} {i : Nat} (h : s.ramTarget (.ext i) = true) :
    ∃ m, s.cart.extCell i = .cram m := by
  simp only [State.ramTarget] at h
  cases hm : s.cart.extCell i with
  | cram m => exact ⟨m, rfl⟩
  | absent | clock => rw [hm] at h; cases h

theorem State.sameByte_self {s : State} {a : Word} (h : s.ramAt a = true) : s.sameByte a a = true := by
  rw [State.ramAt_eq] at h
  unfold State.sameByte
  cases ht : target a with
  | ext i =>
    obtain ⟨m, hm⟩ := State.exists_cram_of_ramTarget_ext (ht ▸ h)
    simp only [State.sameCell, hm, beq_self_eq_true]
  | vram i | oam i | wram i | hram i => exact beq_self_eq_true i
  | rom | io | unmapped => rw [ht] at h; cases h

theorem State.busRead_busWrite_ram_self {s : State} {a : Word} (h : s.ramAt a = true) (v : Byte) :
    (s.busWrite a v).busRead a = v := by
  rw [ramReadAfterWrite s a a v h, if_pos (State.sameByte_self h)]

/-- Two bytes of RAM that are not the same byte hold what was written to each. -/
theorem State.busRead_two_ram_writes {s : State} {a b : Word} (ha : s.ramAt a = true) (hb : s.ramAt b = true)
    (hdistinct : s.sameByte b a = false) (x y : Byte) :
    ((s.busWrite a x).busWrite b y).busRead a = x ∧ ((s.busWrite a x).busWrite b y).busRead b = y := by
  have hb' : (s.busWrite a x).ramAt b = true := (State.ramAt_busWrite_ram ha x b).trans hb
  have hdistinct' : (s.busWrite a x).sameByte b a = false := (State.sameByte_busWrite_ram ha x b a).trans hdistinct
  constructor
  · rw [ramReadAfterWrite _ b a y hb', if_neg (Bool.not_eq_true _ ▸ hdistinct'), State.busRead_busWrite_ram_self ha]
  · exact State.busRead_busWrite_ram_self hb' y

/-! ### A word pushed to RAM is the word on top -/

/-- The round trip of R235 under its condition on the two stack bytes. -/
theorem State.stackTop_push16 {s : State} (hhi : s.ramAt (s.cpu.sp - 1) = true) (hlo : s.ramAt (s.cpu.sp - 2) = true)
    (hdistinct : s.sameByte (s.cpu.sp - 2) (s.cpu.sp - 1) = false) (v : Word) : (s.push16 v).stackTop = v := by
  have hnext : s.cpu.sp - 2 + 1 = s.cpu.sp - 1 := by bv_omega
  obtain ⟨hreadHi, hreadLo⟩ := State.busRead_two_ram_writes hhi hlo hdistinct v.hi v.lo
  rw [State.push16_eq]
  simp only [State.stackTop, State.busRead16, State.busRead_cpu, pushWrites, State.busWrites_cons, State.busWrites_nil,
    hnext, hreadLo, hreadHi, Word.ofBytes_hi_lo]

theorem State.sp_dropTop_push16 (s : State) (v : Word) : (s.push16 v).dropTop.cpu.sp = s.cpu.sp := by
  rw [State.push16_eq]
  exact BitVec.sub_add_cancel s.cpu.sp 2

/-! ### The pairs of the stack -/

/-- A word written to AF and read back has lost the low nibble (10_state.md R22). -/
theorem Word.ofBytes_hi_maskedLo (v : Word) : Word.ofBytes v.hi (v.lo &&& 0xF0) = v &&& 0xFFF0 := by
  have hhi : (v &&& 0xFFF0).hi = v.hi := (BitVec.extractLsb'_and ..).trans (BitVec.and_allOnes ..)
  have hlo : (v &&& 0xFFF0).lo = v.lo &&& 0xF0 := BitVec.extractLsb'_and ..
  rw [← hhi, ← hlo, Word.ofBytes_hi_lo]

theorem Cpu.stackPair_setStackPair (k : Cpu) (q : StackPair) (v : Word) :
    (k.setStackPair q v).stackPair q = if q = .af then v &&& 0xFFF0 else v := by
  cases q with
  | bc | de | hl => exact Word.ofBytes_hi_lo v
  | af =>
    show Word.ofBytes v.hi (Flags.ofByte v.lo).toByte = v &&& 0xFFF0
    rw [Flags.toByte_ofByte, Word.ofBytes_hi_maskedLo]

/-- Which registers each pair puts two popped bytes in; F takes bits 7 to 4 of the low one (41_load16.md R236). -/
theorem Cpu.setStackPair_ofBytes (k : Cpu) (p : StackPair) (hi lo : Byte) :
    k.setStackPair p (Word.ofBytes hi lo) =
      match p with
      | .bc => { k with b := hi, c := lo }
      | .de => { k with d := hi, e := lo }
      | .hl => { k with h := hi, l := lo }
      | .af => { k with a := hi, f := Flags.ofByte lo } := by
  cases p <;>
    simp only [Cpu.setStackPair, Cpu.setBc, Cpu.setDe, Cpu.setHl, Cpu.setAf, Word.hi_ofBytes, Word.lo_ofBytes]

/-! ### PUSH and POP -/

theorem encode_push (p : StackPair) : encode (Instr.push p) = [0xC5 + 16 * p.index] := by
  cases p <;> rfl

theorem push_next (p : StackPair) (s : State) :
    push p s =
      .next
        { (s.busWrite (s.cpu.sp - 1) (s.cpu.stackPair p).hi).busWrite (s.cpu.sp - 2) (s.cpu.stackPair p).lo with
          cpu := { s.cpu with sp := s.cpu.sp - 2 }, cycles := some 16 } := by
  unfold push
  rw [State.push16_eq]
  rfl

theorem pop_next (p : StackPair) (s : State) :
    pop p s =
      .next
        { s with
          cpu := Cpu.setStackPair { s.cpu with sp := s.cpu.sp + 2 } p
            (Word.ofBytes (s.busRead (s.cpu.sp + 1)) (s.busRead s.cpu.sp))
          cycles := some 12 } := rfl

/-- Settles O10: the word pushed to RAM is the word on top of the stack, and POP raises SP by what PUSH lowered it. -/
theorem pushPopRoundTrip : Obligations.PushPopRoundTrip := by
  intro p q s t u hhi hlo hdistinct hpush hpop
  rw [exec_push] at hpush
  rw [exec_pop] at hpop
  cases hpush
  cases hpop
  have htop := State.stackTop_push16 hhi hlo hdistinct (s.cpu.stackPair p)
  refine ⟨(Cpu.setStackPair_sp _ q _).trans (State.sp_dropTop_push16 s _), ?_⟩
  exact (Cpu.stackPair_setStackPair _ q _).trans (congrArg (fun w => if q = .af then w &&& 0xFFF0 else w) htop)

/-- Settles O9: `push_next` for every pair, and `pop_next` with where each pair puts the two bytes. -/
theorem pushAndPop : Obligations.PushAndPop := by
  refine ⟨fun p s => ⟨encode_push p, (exec_push p s).trans (push_next p s)⟩, fun s => ?_⟩
  have hpop := fun p => (exec_pop p s).trans (pop_next p s)
  simp only [Cpu.setStackPair_ofBytes] at hpop
  exact ⟨rfl, rfl, rfl, rfl, hpop .bc, hpop .de, hpop .hl, hpop .af⟩

/-! ### The 16-bit loads -/

theorem encode_ldPairImm (p : Pair) (v : Word) : encode (Instr.ldPairImm p v) = [0x01 + 16 * p.index, v.lo, v.hi] := by
  cases p <;> rfl

theorem storeSp_next (a : Word) (s : State) :
    storeSp a s =
      .next { (s.busWrite a s.cpu.sp.lo).busWrite (a + 1) s.cpu.sp.hi with cpu := s.cpu, cycles := some 20 } := by
  have h := finish_busWrite 20 (s.busWrite a s.cpu.sp.lo) (a + 1) s.cpu.sp.hi
  rwa [State.cpu_busWrite] at h

/-- The sum and the flags of R233 in numbers: the sum signed, the flags from the unsigned low byte. -/
theorem addSpDisp_eq (sp : Word) (e : Byte) :
    addSpDisp sp e =
      (BitVec.ofInt 16 (sp.toNat + e.toInt),
        { z := false, n := false, h := decide (15 < sp.toNat % 16 + e.toNat % 16)
          c := decide (255 < sp.toNat % 256 + e.toNat) }) := by
  have hsum : sp + e.signExtend 16 = BitVec.ofInt 16 (sp.toNat + e.toInt) := by
    rw [BitVec.ofInt_add, BitVec.ofInt_natCast, BitVec.ofNat_toNat, BitVec.setWidth_eq]
    rfl
  have hnibble : (sp &&& 0x0F).toNat = sp.toNat % 16 := Nat.and_two_pow_sub_one_eq_mod sp.toNat 4
  have hbyte : (sp &&& 0xFF).toNat = sp.toNat % 256 := Nat.and_two_pow_sub_one_eq_mod sp.toNat 8
  have hdisp : lowNibble e = e.toNat % 16 := Nat.and_two_pow_sub_one_eq_mod e.toNat 4
  simp only [addSpDisp, hsum, hnibble, hbyte, hdisp, gt_iff_lt]

theorem ldHlSpDisp_next (e : Byte) (s : State) :
    ldHlSpDisp e s =
      .next
        { s with
          cpu := { s.cpu.setHl (addSpDisp s.cpu.sp e).1 with f := (addSpDisp s.cpu.sp e).2 }, cycles := some 12 } := rfl

theorem addSp_next (e : Byte) (s : State) :
    addSp e s =
      .next
        { s with
          cpu := { s.cpu with sp := (addSpDisp s.cpu.sp e).1, f := (addSpDisp s.cpu.sp e).2 }, cycles := some 16 } := rfl

/-- Settles O8: `storeSp_next` for the store, and `addSpDisp_eq` for the two sums. -/
theorem loadWordAndStackPointer : Obligations.LoadWordAndStackPointer := by
  refine ⟨fun p v s => ?_, fun a s => ?_, fun e s => ?_⟩
  · exact ⟨encode_ldPairImm p v, exec_ldPairImm p v s, rfl, rfl⟩
  · exact ⟨rfl, storeSp_next a s⟩
  · have hhl := ldHlSpDisp_next e s
    have hsp := addSp_next e s
    rw [addSpDisp_eq] at hhl hsp
    exact ⟨rfl, hhl, rfl, hsp⟩

end Sys2Proof.Machine
end

section
/-!
PROOFS. The 8-bit arithmetic and logic (42_alu8.md R250 to R284): the opcode byte of each form, the results and flags of
the shared computations in numbers, and DAA on packed decimal operands.
-/

namespace Sys2Proof.Machine

/-! ### The encodings of the forms -/

theorem encode_aluReg (op : AluOp) (r : Reg8) : encode (Instr.aluReg op r) = [0x80 + 8 * op.index + r.index] := by
  cases op <;> cases r <;> rfl

theorem encode_incReg (r : Reg8) : encode (Instr.incReg r) = [0x04 + 8 * r.index] := by
  cases r <;> rfl

theorem encode_decReg (r : Reg8) : encode (Instr.decReg r) = [0x05 + 8 * r.index] := by
  cases r <;> rfl

/-! ### The shared computations in numbers -/

theorem lowNibble_eq_mod (v : Byte) : lowNibble v = v.toNat % 16 := Nat.and_two_pow_sub_one_eq_mod v.toNat 4

theorem ofNat_beq_zero (n : Nat) : (BitVec.ofNat 8 n == 0) = decide (n % 256 = 0) := by
  rw [beq_eq_decide, decide_eq_decide, ← BitVec.toNat_inj, BitVec.toNat_ofNat]
  rfl

theorem and_0x0F_beq (v n : Byte) : (v &&& 0x0F == n) = decide (v.toNat % 16 = n.toNat) := by
  rw [beq_eq_decide, decide_eq_decide, ← BitVec.toNat_inj]
  exact Eq.congr_left (lowNibble_eq_mod v)

/-- `Add8` in numbers (R250). -/
theorem add8_eq (a b : Byte) (c : Bool) :
    add8 a b c =
      (BitVec.ofNat 8 (a.toNat + b.toNat + if c then 1 else 0),
        { z := decide ((a.toNat + b.toNat + if c then 1 else 0) % 256 = 0), n := false
          h := decide (15 < a.toNat % 16 + b.toNat % 16 + if c then 1 else 0)
          c := decide (255 < a.toNat + b.toNat + if c then 1 else 0) }) := by
  simp only [add8, lowNibble_eq_mod, ofNat_beq_zero, Bool.toNat, Bool.cond_eq_ite, gt_iff_lt]

theorem ofInt_sub_sub (a b : Byte) (n : Nat) :
    BitVec.ofInt 8 ((a.toNat : Int) - b.toNat - n) = a - b - BitVec.ofNat 8 n := by
  simp only [Int.sub_eq_add_neg, BitVec.sub_eq_add_neg, BitVec.ofInt_add, BitVec.ofInt_neg, BitVec.ofInt_natCast,
    BitVec.ofNat_toNat, BitVec.setWidth_eq]

theorem decide_sub_sub_neg (x y n : Nat) : decide ((x : Int) - y - n < 0) = decide (x < y + n) := by
  rw [decide_eq_decide]
  omega

/-- `Sub8` in numbers: a borrow is a difference below 0 (R251). -/
theorem sub8_eq (a b : Byte) (c : Bool) :
    sub8 a b c =
      (a - b - BitVec.ofNat 8 (if c then 1 else 0),
        { z := a - b - BitVec.ofNat 8 (if c then 1 else 0) == 0, n := true
          h := decide (a.toNat % 16 < b.toNat % 16 + if c then 1 else 0)
          c := decide (a.toNat < b.toNat + if c then 1 else 0) }) := by
  simp only [sub8, lowNibble_eq_mod, ofInt_sub_sub, decide_sub_sub_neg, Bool.toNat, Bool.cond_eq_ite]

/-- The flags of a comparison: Z is equality (R274). -/
theorem sub8_flags (a x : Byte) :
    (sub8 a x false).2 =
      { z := decide (a = x), n := true, h := decide (a.toNat % 16 < x.toNat % 16), c := decide (a.toNat < x.toNat) } := by
  have hz : (a - x - 0 == 0) = decide (a = x) := by
    rw [beq_eq_decide, decide_eq_decide]
    bv_omega
  rw [sub8_eq, ← hz]
  rfl

/-- INC in numbers: it leaves 0 from 0xFF, and carries out of a low nibble of 15 (R277). -/
theorem inc8_eq (v : Byte) (f : Flags) :
    inc8 v f = (v + 1, { z := decide (v = 0xFF), n := false, h := decide (v.toNat % 16 = 15), c := f.c }) := by
  have hz : (v + 1 == 0) = decide (v = 0xFF) := by
    rw [beq_eq_decide, decide_eq_decide]
    bv_omega
  unfold inc8
  rw [hz, and_0x0F_beq]
  rfl

/-- DEC in numbers: it leaves 0 from 1, and borrows into a low nibble of 0 (R279). -/
theorem dec8_eq (v : Byte) (f : Flags) :
    dec8 v f = (v - 1, { z := decide (v = 1), n := true, h := decide (v.toNat % 16 = 0), c := f.c }) := by
  have hz : (v - 1 == 0) = decide (v = 1) := by
    rw [beq_eq_decide, decide_eq_decide]
    bv_omega
  unfold dec8
  rw [hz, and_0x0F_beq]
  rfl

/-! ### The next state of the shared meanings -/

theorem finish_setAccFlags (n : Nat) (s : State) (r : Byte × Flags) :
    finish n (s.setAccFlags r) = .next { s with cpu := { s.cpu with a := r.1, f := r.2 }, cycles := some n } := rfl

theorem incReg_next (r : Reg8) (s : State) :
    incReg r s =
      .next
        { s with
          cpu := { s.cpu.setReg r (inc8 (s.cpu.reg r) s.cpu.f).1 with f := (inc8 (s.cpu.reg r) s.cpu.f).2 }
          cycles := some 4 } := rfl

theorem decReg_next (r : Reg8) (s : State) :
    decReg r s =
      .next
        { s with
          cpu := { s.cpu.setReg r (dec8 (s.cpu.reg r) s.cpu.f).1 with f := (dec8 (s.cpu.reg r) s.cpu.f).2 }
          cycles := some 4 } := rfl

/-- One bus write at HL and the flags; the rest of the CPU is the old one, which the write does not touch. -/
theorem finish_setFlags_writeHl (n : Nat) (s : State) (v : Byte) (f : Flags) :
    finish n ((s.writeHl v).setFlags f) =
      .next { s.busWrite s.cpu.hl v with cpu := { s.cpu with f := f }, cycles := some n } := by
  unfold State.setFlags State.writeHl
  rw [State.cpu_busWrite]
  rfl

/-! ### The obligations on one instruction -/

/-- Settles O11: every form is `add8` of A, the operand and the carry it takes. -/
theorem addToAccumulator : Obligations.AddToAccumulator := by
  intro r v s sum cy
  have hadd (x : Byte) (c : Bool) (n : Nat) :
      finish n (s.setAccFlags (add8 s.cpu.a x c)) = sum x (if c then 1 else 0) n := by
    rw [finish_setAccFlags, add8_eq]
  simp only [exec_aluReg, exec_aluHl, exec_aluImm]
  exact ⟨encode_aluReg .add r, hadd (s.cpu.reg r) false 4, rfl, hadd s.readHl false 8, rfl, hadd v false 8,
    encode_aluReg .adc r, hadd (s.cpu.reg r) s.cpu.f.c 4, rfl, hadd s.readHl s.cpu.f.c 8, rfl, hadd v s.cpu.f.c 8⟩

/-- Settles O12: SUB and SBC are `sub8` of A, the operand and the borrow they take; CP keeps its flags only. -/
theorem subtractAndCompare : Obligations.SubtractAndCompare := by
  constructor
  · intro r v s diff cy
    have hsub (x : Byte) (c : Bool) (n : Nat) :
        finish n (s.setAccFlags (sub8 s.cpu.a x c)) = diff x (if c then 1 else 0) n := by
      rw [finish_setAccFlags, sub8_eq]
    simp only [exec_aluReg, exec_aluHl, exec_aluImm]
    exact ⟨encode_aluReg .sub r, hsub (s.cpu.reg r) false 4, rfl, hsub s.readHl false 8, rfl, hsub v false 8,
      encode_aluReg .sbc r, hsub (s.cpu.reg r) s.cpu.f.c 4, rfl, hsub s.readHl s.cpu.f.c 8, rfl, hsub v s.cpu.f.c 8⟩
  · intro r v s flags
    have hcp (x : Byte) (n : Nat) : finish n (s.setAccFlags (aluResult .cp s.cpu.a x s.cpu.f)) = flags x n := by
      rw [finish_setAccFlags]
      simp only [aluResult, sub8_flags, flags]
    simp only [exec_aluReg, exec_aluHl, exec_aluImm]
    exact ⟨encode_aluReg .cp r, hcp (s.cpu.reg r) 4, rfl, hcp s.readHl 8, rfl, hcp v 8⟩

/-- Settles O13: the result and `logicFlags` of the three operations. -/
theorem logicOnAccumulator : Obligations.LogicOnAccumulator := by
  intro r v s result a x m
  have hlogic (y : Byte) (half : Bool) (n : Nat) :
      finish n (s.setAccFlags (y, logicFlags y half)) = result y half n := by
    rw [finish_setAccFlags, logicFlags, beq_eq_decide]
  simp only [exec_aluReg, exec_aluHl, exec_aluImm]
  exact ⟨encode_aluReg .and r, hlogic (a &&& x) true 4, rfl, hlogic (a &&& m) true 8, rfl, hlogic (a &&& v) true 8,
    encode_aluReg .xor r, hlogic (a ^^^ x) false 4, rfl, hlogic (a ^^^ m) false 8, rfl, hlogic (a ^^^ v) false 8,
    encode_aluReg .or r, hlogic (a ||| x) false 4, rfl, hlogic (a ||| m) false 8, rfl, hlogic (a ||| v) false 8⟩

/-- Settles O14: the register forms write a register, the forms at HL are `finish_setFlags_writeHl`. -/
theorem incrementDecrementByte : Obligations.IncrementDecrementByte := by
  intro r s up down x m
  have hinc := incReg_next r s
  have hdec := decReg_next r s
  have hincHl : incHl s = _ := finish_setFlags_writeHl 12 s (inc8 m s.cpu.f).1 (inc8 m s.cpu.f).2
  have hdecHl : decHl s = _ := finish_setFlags_writeHl 12 s (dec8 m s.cpu.f).1 (dec8 m s.cpu.f).2
  rw [inc8_eq] at hinc hincHl
  rw [dec8_eq] at hdec hdecHl
  rw [exec_incReg, exec_decReg]
  exact ⟨encode_incReg r, hinc, encode_decReg r, hdec, rfl, hincHl, rfl, hdecHl⟩

/-! ### DAA in numbers -/

/-- What DAA corrects the low digit by (R281). -/
def daaLow (a : Byte) (f : Flags) : Nat := if f.h = true ∨ (f.n = false ∧ 9 < a.toNat % 16) then 0x06 else 0

/-- What DAA corrects the high digit by (R281). -/
def daaHigh (a : Byte) (f : Flags) : Nat := if f.c = true ∨ (f.n = false ∧ 0x99 < a.toNat) then 0x60 else 0

/-- A corrected by the two digits, up after an addition and down after a subtraction (R281). -/
def daaByte (a : Byte) (f : Flags) : Byte :=
  BitVec.ofNat 8
    (if f.n then a.toNat + 256 - (daaLow a f + daaHigh a f) else a.toNat + (daaLow a f + daaHigh a f))

/-- The two corrections have no bit in common, so `|||` is their sum. -/
theorem ite_or_ite_eq_ofNat_add (p q : Prop) [Decidable p] [Decidable q] :
    ((if p then (0x06 : Byte) else 0) ||| if q then 0x60 else 0) =
      BitVec.ofNat 8 ((if p then 0x06 else 0) + if q then 0x60 else 0) := by
  split <;> split <;> rfl

theorem daaLow_of_subtract {f : Flags} (hn : f.n = true) (a : Byte) : daaLow a f = if f.h then 0x06 else 0 := by
  simp [daaLow, hn]

theorem daaHigh_of_subtract {f : Flags} (hn : f.n = true) (a : Byte) : daaHigh a f = if f.c then 0x60 else 0 := by
  simp [daaHigh, hn]

theorem daaLow_of_add {f : Flags} (hn : f.n = false) (a : Byte) :
    daaLow a f = if f.h || decide (lowNibble a > 0x09) then 0x06 else 0 := by
  simp [daaLow, hn, lowNibble_eq_mod]

theorem daaHigh_of_add {f : Flags} (hn : f.n = false) (a : Byte) :
    daaHigh a f = if f.c || decide (a.toNat > 0x99) then 0x60 else 0 := by
  simp [daaHigh, hn]

theorem daaLow_add_daaHigh_le (a : Byte) (f : Flags) : daaLow a f + daaHigh a f ≤ 0x66 := by
  unfold daaLow daaHigh
  split <;> split <;> decide

theorem decide_ite_eq_0x60 (p : Prop) [Decidable p] : decide ((if p then 0x60 else 0) = 0x60) = decide p := by
  split
  · next h => exact (decide_eq_true h).symm
  · next h => exact (decide_eq_false h).symm

theorem daaByte_of_subtract {f : Flags} (hn : f.n = true) (a : Byte) :
    daaByte a f = a - BitVec.ofNat 8 (daaLow a f + daaHigh a f) := by
  have hle := daaLow_add_daaHigh_le a f
  simp only [daaByte, hn, if_true]
  bv_omega

theorem daaByte_of_add {f : Flags} (hn : f.n = false) (a : Byte) :
    daaByte a f = a + BitVec.ofNat 8 (daaLow a f + daaHigh a f) := by
  simp only [daaByte, hn, Bool.false_eq_true, if_false, BitVec.ofNat_add, BitVec.ofNat_toNat, BitVec.setWidth_eq]

/-- DAA in numbers (R281). -/
theorem daa_eq (a : Byte) (f : Flags) :
    daa a f =
      (daaByte a f, { z := decide (daaByte a f = 0), n := f.n, h := false, c := decide (daaHigh a f = 0x60) }) := by
  cases hn : f.n with
  | true =>
    simp only [daa, hn, if_true, beq_eq_decide, daaByte_of_subtract hn, daaLow_of_subtract hn, daaHigh_of_subtract hn,
      ite_or_ite_eq_ofNat_add, decide_ite_eq_0x60, Bool.decide_eq_true]
  | false =>
    simp only [daa, hn, Bool.false_eq_true, if_false, beq_eq_decide, daaByte_of_add hn, daaLow_of_add hn,
      daaHigh_of_add hn, ite_or_ite_eq_ofNat_add, decide_ite_eq_0x60, Bool.decide_eq_true]

/-- Settles O15: `daa_eq` for DAA; the other three write A or F as R282 to R284 say. -/
theorem decimalComplementCarry : Obligations.DecimalComplementCarry := by
  refine ⟨fun s => ⟨rfl, ?_⟩, fun s => ⟨rfl, rfl, rfl, rfl, rfl, rfl⟩⟩
  have h : decimalAdjust s = _ := finish_setAccFlags 4 s (daa s.cpu.a s.cpu.f)
  rw [daa_eq] at h
  exact h

/-! ### DAA on packed decimal operands -/

/-- The packed decimal of a number below 100: tens in the high nibble, units in the low one. -/
def packed (n : Nat) : Byte := BitVec.ofNat 8 (n / 10 * 16 + n % 10)

theorem toNat_packed {n : Nat} (h : n < 100) : (packed n).toNat = n / 10 * 16 + n % 10 := by
  unfold packed
  rw [BitVec.toNat_ofNat]
  omega

/-- A byte sum above 0x99 shows as a carry or in the byte that is left. -/
theorem carry_or_gt_iff (n : Nat) : 255 < n ∨ 0x99 < n % 2 ^ 8 ↔ 0x99 < n := by
  omega

section
variable {x y : Nat} (hx : x < 100) (hy : y < 100)
include hx hy

/-- After an addition the low digit is corrected when the units carry, seen by H or by a digit above 9. -/
theorem daaLow_add8_packed :
    daaLow (add8 (packed x) (packed y) false).1 (add8 (packed x) (packed y) false).2 =
      if 10 ≤ x % 10 + y % 10 then 0x06 else 0 := by
  simp only [add8_eq, daaLow, toNat_packed hx, toNat_packed hy, BitVec.toNat_ofNat, decide_eq_true_eq, true_and,
    Bool.false_eq_true, if_false]
  exact if_congr (by omega) rfl rfl

/-- Two packed numbers add up to more than the packed 99 exactly when the numbers add up to 100 or more. -/
theorem toNat_packed_add_gt_iff : 0x99 < (packed x).toNat + (packed y).toNat ↔ 100 ≤ x + y := by
  have htens : x / 10 + y / 10 ≤ 8 ∨ x / 10 + y / 10 = 9 ∨ 10 ≤ x / 10 + y / 10 := by omega
  rw [toNat_packed hx, toNat_packed hy]
  omega

/-- After an addition the high digit is corrected when the sum is 100 or more, seen by C or by a byte above 0x99. -/
theorem daaHigh_add8_packed :
    daaHigh (add8 (packed x) (packed y) false).1 (add8 (packed x) (packed y) false).2 =
      if 100 ≤ x + y then 0x60 else 0 := by
  simp only [add8_eq, daaHigh, BitVec.toNat_ofNat, decide_eq_true_eq, true_and, Bool.false_eq_true, if_false,
    Nat.add_zero, carry_or_gt_iff, toNat_packed_add_gt_iff hx hy]

theorem packed_add_correction :
    packed x + packed y + BitVec.ofNat 8 ((if 10 ≤ x % 10 + y % 10 then 0x06 else 0) + if 100 ≤ x + y then 0x60 else 0) =
      packed ((x + y) % 100) := by
  apply BitVec.eq_of_toNat_eq
  rw [toNat_packed (Nat.mod_lt _ (by decide)), BitVec.toNat_add, BitVec.toNat_add, toNat_packed hx, toNat_packed hy,
    BitVec.toNat_ofNat]
  split_ifs <;> omega

theorem daa_add8_packed :
    daa (add8 (packed x) (packed y) false).1 (add8 (packed x) (packed y) false).2 =
      (packed ((x + y) % 100),
        { z := decide (packed ((x + y) % 100) = 0), n := false, h := false, c := decide (100 ≤ x + y) }) := by
  have hn : (add8 (packed x) (packed y) false).2.n = false := rfl
  have hsum : (add8 (packed x) (packed y) false).1 = packed x + packed y := (BitVec.add_def ..).symm
  rw [daa_eq, daaByte_of_add hn, daaLow_add8_packed hx hy, daaHigh_add8_packed hx hy, hn, hsum,
    packed_add_correction hx hy, decide_ite_eq_0x60]

/-- After a subtraction the low digit is corrected when the units borrow. -/
theorem daaLow_sub8_packed :
    daaLow (sub8 (packed x) (packed y) false).1 (sub8 (packed x) (packed y) false).2 =
      if x % 10 < y % 10 then 0x06 else 0 := by
  rw [daaLow_of_subtract rfl, sub8_flags, toNat_packed hx, toNat_packed hy]
  exact if_congr (decide_eq_true_iff.trans (by omega)) rfl rfl

/-- After a subtraction the high digit is corrected when the difference borrows, since packing keeps the order. -/
theorem daaHigh_sub8_packed :
    daaHigh (sub8 (packed x) (packed y) false).1 (sub8 (packed x) (packed y) false).2 = if x < y then 0x60 else 0 := by
  rw [daaHigh_of_subtract rfl, sub8_flags, toNat_packed hx, toNat_packed hy]
  exact if_congr (decide_eq_true_iff.trans (by omega)) rfl rfl

theorem packed_sub_correction :
    packed x - packed y - BitVec.ofNat 8 ((if x % 10 < y % 10 then 0x06 else 0) + if x < y then 0x60 else 0) =
      packed ((x + 100 - y) % 100) := by
  apply BitVec.eq_of_toNat_eq
  rw [toNat_packed (Nat.mod_lt _ (by decide)), BitVec.toNat_sub, BitVec.toNat_sub, toNat_packed hx, toNat_packed hy,
    BitVec.toNat_ofNat]
  split_ifs <;> omega

theorem daa_sub8_packed :
    daa (sub8 (packed x) (packed y) false).1 (sub8 (packed x) (packed y) false).2 =
      (packed ((x + 100 - y) % 100),
        { z := decide (packed ((x + 100 - y) % 100) = 0), n := true, h := false, c := decide (x < y) }) := by
  have hn : (sub8 (packed x) (packed y) false).2.n = true := rfl
  have hdiff : (sub8 (packed x) (packed y) false).1 = packed x - packed y := by
    rw [sub8_eq]
    exact BitVec.sub_zero (packed x - packed y)
  rw [daa_eq, daaByte_of_subtract hn, daaLow_sub8_packed hx hy, daaHigh_sub8_packed hx hy, hn, hdiff,
    packed_sub_correction hx hy, decide_ite_eq_0x60]

end

/-- An immediate operation and DAA after it, in A and F. -/
theorem acc_of_aluImm_daa {op : AluOp} {v : Byte} {s t u : State} (hop : exec (Instr.aluImm op v) s = .next t)
    (hdaa : exec .daa t = .next u) :
    (u.cpu.a, u.cpu.f) = daa (aluResult op s.cpu.a v s.cpu.f).1 (aluResult op s.cpu.a v s.cpu.f).2 := by
  rw [exec_aluImm] at hop
  cases hop
  cases hdaa
  rfl

/-- Settles O16: A and F after the two instructions are `daa` of `add8` or `sub8` on packed operands. -/
theorem decimalArithmetic : Obligations.DecimalArithmetic := by
  intro x y s t u bcd hx hy ha
  constructor
  · intro hadd hdaa
    have hacc := acc_of_aluImm_daa hadd hdaa
    rw [ha] at hacc
    obtain ⟨hbyte, hflags⟩ := Prod.mk.inj (hacc.trans (daa_add8_packed hx hy))
    exact ⟨hbyte, congrArg Flags.c hflags⟩
  · intro hsub hdaa
    have hacc := acc_of_aluImm_daa hsub hdaa
    rw [ha] at hacc
    obtain ⟨hbyte, hflags⟩ := Prod.mk.inj (hacc.trans (daa_sub8_packed hx hy))
    exact ⟨hbyte, congrArg Flags.c hflags⟩

end Sys2Proof.Machine
end

section
/-!
PROOFS. The 16-bit arithmetic on register pairs (43_alu16.md R300 to R302): the opcode byte of each form, and the sum and
flags of ADD HL,rr in numbers.
-/

namespace Sys2Proof.Machine

theorem encode_addHl (p : Pair) : encode (Instr.addHl p) = [0x09 + 16 * p.index] := by
  cases p <;> rfl

theorem encode_incPair (p : Pair) : encode (Instr.incPair p) = [0x03 + 16 * p.index] := by
  cases p <;> rfl

theorem encode_decPair (p : Pair) : encode (Instr.decPair p) = [0x0B + 16 * p.index] := by
  cases p <;> rfl

/-- The mask of `addWord` keeps bits 0 to 11, whose sum decides H (R300). -/
theorem toNat_and_0x0FFF (w : Word) : (w &&& 0x0FFF).toNat = w.toNat % 4096 :=
  Nat.and_two_pow_sub_one_eq_mod w.toNat 12

/-- The sum and the flags of `ADD HL,rr` in numbers (R300). -/
theorem addWord_eq (a b : Word) (f : Flags) :
    addWord a b f =
      (BitVec.ofNat 16 (a.toNat + b.toNat),
        { z := f.z, n := false, h := decide (4095 < a.toNat % 4096 + b.toNat % 4096)
          c := decide (65535 < a.toNat + b.toNat) }) := by
  simp only [addWord, BitVec.add_def, toNat_and_0x0FFF, gt_iff_lt]

theorem addHl_next (p : Pair) (s : State) :
    addHl p s =
      .next
        { s with
          cpu :=
            { s.cpu.setHl (addWord s.cpu.hl (s.cpu.pair p) s.cpu.f).1 with
              f := (addWord s.cpu.hl (s.cpu.pair p) s.cpu.f).2 }
          cycles := some 8 } := rfl

/-- Settles O17: ADD HL,rr is `addHl_next` with the sum and flags of `addWord_eq`; INC and DEC write the pair alone. -/
theorem wordArithmetic : Obligations.WordArithmetic := by
  intro p s a b
  have hadd := addHl_next p s
  rw [addWord_eq] at hadd
  exact ⟨encode_addHl p, (exec_addHl p s).trans hadd, encode_incPair p, exec_incPair p s, encode_decPair p,
    exec_decPair p s⟩

end Sys2Proof.Machine
end

section
/-!
PROOFS. The rotate, shift and bit instructions (44_rotate_bit.md R310 to R336): the second opcode byte of each form, the
results of the eight rotates and shifts in numbers, and the whole next state of each shared meaning.
-/

namespace Sys2Proof.Machine

/-! ### The encodings of the forms -/

theorem encode_rotReg (op : RotOp) (r : Reg8) : encode (Instr.rotReg op r) = [0xCB, 8 * op.index + r.index] := by
  cases op <;> cases r <;> rfl

theorem encode_rotHl (op : RotOp) : encode (Instr.rotHl op) = [0xCB, 8 * op.index + 6] := by
  cases op <;> rfl

theorem encode_bitReg (b : Fin 8) (r : Reg8) :
    encode (Instr.bitReg b r) = [0xCB, 0x40 + 8 * BitVec.ofNat 8 b.val + r.index] := by
  cases r <;> fin_cases b <;> rfl

theorem encode_bitHl (b : Fin 8) : encode (Instr.bitHl b) = [0xCB, 0x46 + 8 * BitVec.ofNat 8 b.val] := by
  fin_cases b <;> rfl

theorem encode_resReg (b : Fin 8) (r : Reg8) :
    encode (Instr.resReg b r) = [0xCB, 0x80 + 8 * BitVec.ofNat 8 b.val + r.index] := by
  cases r <;> fin_cases b <;> rfl

theorem encode_resHl (b : Fin 8) : encode (Instr.resHl b) = [0xCB, 0x86 + 8 * BitVec.ofNat 8 b.val] := by
  fin_cases b <;> rfl

theorem encode_setReg (b : Fin 8) (r : Reg8) :
    encode (Instr.setReg b r) = [0xCB, 0xC0 + 8 * BitVec.ofNat 8 b.val + r.index] := by
  cases r <;> fin_cases b <;> rfl

theorem encode_setHl (b : Fin 8) : encode (Instr.setHl b) = [0xCB, 0xC6 + 8 * BitVec.ofNat 8 b.val] := by
  fin_cases b <;> rfl

/-! ### The rotates and shifts in numbers -/

theorem bit7_eq (v : Byte) : v.getLsbD 7 = decide (128 ≤ v.toNat) :=
  (BitVec.msb_eq_getLsbD_last v).symm.trans (BitVec.msb_eq_decide v)

theorem bit7_eq_div (v : Byte) : (if v.getLsbD 7 then 1 else 0) = v.toNat / 128 := by
  simp only [bit7_eq, decide_eq_true_eq]
  split <;> omega

theorem bit0_eq_mod (v : Byte) : (if v.getLsbD 0 then 1 else 0) = v.toNat % 2 := by
  simp only [bit0_eq, decide_eq_true_eq]
  split <;> omega

theorem shiftRight_eq_ofNat (v : Byte) (k : Nat) : v >>> k = BitVec.ofNat 8 (v.toNat / 2 ^ k) := by
  rw [← Nat.shiftRight_eq_div_pow, ← BitVec.toNat_ushiftRight, BitVec.ofNat_toNat, BitVec.setWidth_eq]

/-- The `k` low bits that a shift left frees take the byte added there. -/
theorem shiftLeft_or_eq_ofNat (v x : Byte) {k : Nat} (hx : x.toNat < 2 ^ k) :
    (v <<< k) ||| x = BitVec.ofNat 8 (2 ^ k * v.toNat + x.toNat) := by
  rw [Nat.mul_comm, ← Nat.shiftLeft_eq, Nat.shiftLeft_add_eq_or_of_lt hx, BitVec.ofNat_or, BitVec.ofNat_toNat,
    BitVec.setWidth_eq]
  rfl

theorem shiftLeft_one_eq (v : Byte) : v <<< 1 = BitVec.ofNat 8 (2 * v.toNat) :=
  BitVec.or_zero.symm.trans (shiftLeft_or_eq_ofNat v 0 (k := 1) (by decide))

theorem shiftLeft_or_bit0 (v : Byte) (b : Bool) :
    (v <<< 1) ||| (if b then 0x01 else 0) = BitVec.ofNat 8 (2 * v.toNat + if b then 1 else 0) := by
  cases b with
  | false => exact shiftLeft_or_eq_ofNat v 0 (k := 1) (by decide)
  | true => exact shiftLeft_or_eq_ofNat v 1 (k := 1) (by decide)

/-- The top bit that a shift right by one frees takes the bit moved there. -/
theorem shiftRight_or_bit7 (v : Byte) (b : Bool) :
    (v >>> 1) ||| (if b then 0x80 else 0) = BitVec.ofNat 8 (v.toNat / 2 + 128 * if b then 1 else 0) := by
  have hroom : v.toNat / 2 ^ 1 < 2 ^ 7 := by omega
  have hbit : (if b then 0x80 else 0 : Byte) = BitVec.ofNat 8 (2 ^ 7 * if b then 1 else 0) := by cases b <;> rfl
  rw [hbit, shiftRight_eq_ofNat, BitVec.or_comm, ← BitVec.ofNat_or, ← Nat.two_pow_add_eq_or_of_lt hroom,
    Nat.add_comm]
  rfl

theorem swapNibbles_eq (v : Byte) :
    (v <<< 4) ||| (v >>> 4) = BitVec.ofNat 8 (v.toNat % 16 * 16 + v.toNat / 16) := by
  have hlow : (v >>> 4).toNat = v.toNat / 16 := by
    rw [BitVec.toNat_ushiftRight, Nat.shiftRight_eq_div_pow]
  rw [shiftLeft_or_eq_ofNat v (v >>> 4) (by omega), hlow]
  apply BitVec.eq_of_toNat_eq
  rw [BitVec.toNat_ofNat, BitVec.toNat_ofNat]
  omega

/-- The table of R314 in numbers: bit 7 is `n / 128` and bit 0 is `n % 2`, moved to where the operation puts them. -/
theorem rotResult_eq (op : RotOp) (v : Byte) (cy : Bool) : rotResult op v cy = rotateInNumbers op v cy := by
  cases op <;> simp only [rotResult, rotateInNumbers]
  case rlc => rw [shiftLeft_or_bit0, bit7_eq_div, bit7_eq]
  case rrc => rw [shiftRight_or_bit7, bit0_eq_mod, bit0_eq]
  case rl => rw [shiftLeft_or_bit0, bit7_eq]
  case rr => rw [shiftRight_or_bit7, bit0_eq]
  case sla => rw [shiftLeft_one_eq, bit7_eq]
  case sra =>
    have htop : v &&& 0x80 = if v.getLsbD 7 then 0x80 else 0 := BitVec.and_twoPow v 7
    rw [htop, shiftRight_or_bit7, bit7_eq_div, bit0_eq, Nat.mul_comm]
  case swap => rw [swapNibbles_eq]
  case srl => rw [shiftRight_eq_ofNat, Nat.pow_one, bit0_eq]

theorem rotFlags_eq (r : Byte) (c : Bool) : rotFlags r c = { z := decide (r = 0), n := false, h := false, c := c } := by
  rw [rotFlags, beq_eq_decide]

/-! ### The next state of the shared meanings -/

theorem finish_setReg (n : Nat) (s : State) (r : Reg8) (v : Byte) :
    finish n (s.setReg r v) = .next { s with cpu := s.cpu.setReg r v, cycles := some n } := rfl

theorem finish_setFlags (n : Nat) (s : State) (f : Flags) :
    finish n (s.setFlags f) = .next { s with cpu := { s.cpu with f := f }, cycles := some n } := rfl

theorem finish_setFlags_setReg (n : Nat) (s : State) (r : Reg8) (v : Byte) (f : Flags) :
    finish n ((s.setReg r v).setFlags f) =
      .next { s with cpu := { s.cpu.setReg r v with f := f }, cycles := some n } := rfl

/-! ### The obligations -/

/-- Settles O18: each is `rotAcc` of the operation of the same name, with the result of `rotResult_eq`. -/
theorem rotateAccumulator : Obligations.RotateAccumulator := by
  intro s rotated
  have hrot (op : RotOp) : rotAcc op s = rotated op := by
    rw [rotAcc, finish_setAccFlags, rotResult_eq, accRotFlags]
  exact ⟨rfl, hrot .rlc, rfl, hrot .rrc, rfl, hrot .rl, rfl, hrot .rr⟩

/-- Settles O19: the result and the carry-out are `rotResult_eq`, the write at HL is `finish_setFlags_writeHl`. -/
theorem rotateShiftPrefixed : Obligations.RotateShiftPrefixed := by
  constructor
  · intro op r s x
    refine ⟨encode_rotReg op r, ?_⟩
    rw [exec_rotReg, rotReg, rotResult_eq, rotFlags_eq]
    exact finish_setFlags_setReg 8 s r x.1 _
  · intro op s x
    refine ⟨encode_rotHl op, ?_⟩
    rw [exec_rotHl, rotHl, rotResult_eq, rotFlags_eq]
    exact finish_setFlags_writeHl 16 s x.1 _

/-- Settles O20: both forms write the flags `bitFlags` of the operand alone. -/
theorem testBit : Obligations.TestBit := by
  intro b r s tested
  exact ⟨encode_bitReg b r, (exec_bitReg b r s).trans (finish_setFlags 8 s (bitFlags (s.cpu.reg r) b s.cpu.f)),
    encode_bitHl b, (exec_bitHl b s).trans (finish_setFlags 12 s (bitFlags s.readHl b s.cpu.f))⟩

/-- Settles O21: the register forms write a register, the forms at HL are `finish_busWrite`. -/
theorem resetAndSetBit : Obligations.ResetAndSetBit := by
  intro b r s m
  exact ⟨encode_resReg b r, (exec_resReg b r s).trans (finish_setReg 8 s r (resetBit (s.cpu.reg r) b)),
    encode_resHl b, (exec_resHl b s).trans (finish_busWrite 16 s s.cpu.hl (resetBit m b)),
    encode_setReg b r, (exec_setReg b r s).trans (finish_setReg 8 s r (setBit (s.cpu.reg r) b)),
    encode_setHl b, (exec_setHl b s).trans (finish_busWrite 16 s s.cpu.hl (setBit m b))⟩

end Sys2Proof.Machine
end

section
/-!
PROOFS. The jumps, calls, returns and restarts (45_control.md R350 to R361): the opcode byte of each form, the condition
tested, and the whole next state of each shared meaning.
-/

namespace Sys2Proof.Machine

/-! ### The encodings of the forms -/

theorem encode_jpIf (cc : Cond) (a : Word) : encode (Instr.jpIf cc a) = [0xC2 + 8 * cc.index, a.lo, a.hi] := by
  cases cc <;> rfl

theorem encode_jrIf (cc : Cond) (e : Byte) : encode (Instr.jrIf cc e) = [0x20 + 8 * cc.index, e] := by
  cases cc <;> rfl

theorem encode_callIf (cc : Cond) (a : Word) : encode (Instr.callIf cc a) = [0xC4 + 8 * cc.index, a.lo, a.hi] := by
  cases cc <;> rfl

theorem encode_retIf (cc : Cond) : encode (Instr.retIf cc) = [0xC0 + 8 * cc.index] := by
  cases cc <;> rfl

theorem encode_rst (y : Fin 8) : encode (Instr.rst y) = [0xC7 + 8 * BitVec.ofNat 8 y.val] := by
  fin_cases y <;> rfl

/-! ### The condition -/

theorem Flags.holds_iff (f : Flags) (cc : Cond) : f.holds cc = true ↔ conditionHolds f cc := by
  cases cc <;> simp [Flags.holds, conditionHolds]

/-- What a conditional form does on either side of its condition, for any of the four families. -/
theorem conditional_cases {f : Flags} {cc : Cond} {r taken untaken : Result}
    (h : r = if f.holds cc then taken else untaken) :
    (conditionHolds f cc → r = taken) ∧ (¬conditionHolds f cc → r = untaken) :=
  ⟨fun hc => h.trans (if_pos ((f.holds_iff cc).mpr hc)), fun hc => h.trans (if_neg (mt (f.holds_iff cc).mp hc))⟩

/-! ### The next state of the shared meanings -/

theorem jump_next (n : Nat) (a : Word) (s : State) :
    jump n a s = .next { s with cpu := { s.cpu with pc := a }, cycles := some n } := rfl

/-- The sum of R354 in numbers; it is the one `addSpDisp` makes, with PC in place of SP. -/
theorem add_signExtend_eq (w : Word) (e : Byte) : w + e.signExtend 16 = BitVec.ofInt 16 (w.toNat + e.toInt) :=
  congrArg Prod.fst (addSpDisp_eq w e)

theorem jumpRel_next (e : Byte) (s : State) :
    jumpRel e s =
      .next
        { s with cpu := { s.cpu with pc := BitVec.ofInt 16 (s.cpu.pc.toNat + e.toInt) }, cycles := some 12 } := by
  rw [← add_signExtend_eq]
  exact jump_next 12 (s.cpu.pc + e.signExtend 16) s

theorem call_next (n : Nat) (a : Word) (s : State) :
    call n a s =
      .next
        { (s.busWrite (s.cpu.sp - 1) s.cpu.pc.hi).busWrite (s.cpu.sp - 2) s.cpu.pc.lo with
          cpu := { s.cpu with sp := s.cpu.sp - 2, pc := a }, cycles := some n } := by
  unfold call
  rw [State.push16_eq]
  rfl

theorem ret_next (n : Nat) (s : State) :
    ret n s =
      .next
        { s with
          cpu := { s.cpu with sp := s.cpu.sp + 2, pc := Word.ofBytes (s.busRead (s.cpu.sp + 1)) (s.busRead s.cpu.sp) }
          cycles := some n } := rfl

theorem retInterrupt_next (s : State) :
    retInterrupt s =
      .next
        { s with
          cpu :=
            { s.cpu with
              sp := s.cpu.sp + 2, pc := Word.ofBytes (s.busRead (s.cpu.sp + 1)) (s.busRead s.cpu.sp)
              ime := true, imeDelay := 0 }
          cycles := some 16 } := rfl

/-! ### The obligations -/

/-- Settles O22: the absolute forms are `jump_next`, the relative ones `jumpRel_next`, and an untaken jump leaves PC. -/
theorem jumps : Obligations.Jumps := by
  intro cc a e s goes rel
  obtain ⟨hjp, hjpUntaken⟩ := conditional_cases (exec_jpIf cc a s)
  obtain ⟨hjr, hjrUntaken⟩ := conditional_cases (exec_jrIf cc e s)
  have hrel : jumpRel e s = goes rel 12 := jumpRel_next e s
  rw [exec_jpA16, exec_jpHl, exec_jrE8]
  rw [jump_next] at hjp
  rw [hrel] at hjr
  exact ⟨rfl, jump_next 16 a s, rfl, jump_next 4 s.cpu.hl s, rfl, hrel,
    encode_jpIf cc a, hjp, hjpUntaken, encode_jrIf cc e, hjr, hjrUntaken⟩

/-- Settles O23: every call that is made is `call_next`, RST with the target of its field. -/
theorem callsAndRestarts : Obligations.CallsAndRestarts := by
  intro cc a y s calls
  obtain ⟨hcall, huntaken⟩ := conditional_cases (exec_callIf cc a s)
  rw [call_next] at hcall
  rw [exec_callA16, exec_rst]
  exact ⟨rfl, call_next 24 a s, encode_callIf cc a, hcall, huntaken,
    encode_rst y, call_next 16 (BitVec.ofNat 16 (8 * y.val)) s⟩

/-- Settles O24: every return that is made is `ret_next`, and RETI is `retInterrupt_next`. -/
theorem returns : Obligations.Returns := by
  intro cc s back
  obtain ⟨hret, huntaken⟩ := conditional_cases (exec_retIf cc s)
  rw [ret_next] at hret
  rw [exec_ret, exec_reti]
  exact ⟨rfl, ret_next 16 s, encode_retIf cc, hret, huntaken, rfl, retInterrupt_next s⟩

end Sys2Proof.Machine
end

section
/-!
PROOFS. The system instructions (46_system.md R380 to R384): the outcome of each meaning, one lemma per branch.
-/

namespace Sys2Proof.Machine

/-! ### The outcome of each meaning -/

theorem nop_next (s : State) : nop s = .next { s with cycles := some 4 } := rfl

theorem stop_nop2 {s : State} (h : s.env.stop = .nop2) : stop s = .next { s with cycles := some 4 } := by
  unfold stop
  rw [h]
  rfl

theorem stop_refuse {s : State} (h : s.env.stop = .refuse) : stop s = .refused .stopNotSpecified := by
  unfold stop
  rw [h]

theorem halt_armsHaltBug {s : State} (hime : s.cpu.ime = false) (hpending : s.ic.pending ≠ 0) :
    halt s = .next { s with cpu := { s.cpu with haltBug := true }, cycles := some 4 } :=
  if_pos ⟨hime, hpending⟩

theorem halt_halts {s : State} (h : s.cpu.ime = true ∨ s.ic.pending = 0) :
    halt s = .next { s with cpu := { s.cpu with halted := true }, cycles := some 4 } := by
  have hbug : ¬(s.cpu.ime = false ∧ s.ic.pending ≠ 0) := by
    rintro ⟨hime, hpending⟩
    rcases h with h | h
    · exact Bool.false_ne_true (hime.symm.trans h)
    · exact hpending h
  exact if_neg hbug

theorem disableInterrupts_next (s : State) :
    disableInterrupts s = .next { s with cpu := { s.cpu with ime := false, imeDelay := 0 }, cycles := some 4 } := rfl

theorem enableInterrupts_armsDelay {s : State} (h : s.cpu.imeDelay = 0) :
    enableInterrupts s = .next { s with cpu := { s.cpu with imeDelay := 2 }, cycles := some 4 } := by
  rw [enableInterrupts, if_pos h]
  rfl

/-- While the delay runs EI writes it back as it is, so the CPU stays the old one (R384). -/
theorem enableInterrupts_keepsDelay {s : State} (h : s.cpu.imeDelay ≠ 0) :
    enableInterrupts s = .next { s with cycles := some 4 } := by
  rw [enableInterrupts, if_neg h]
  rfl

/-! ### The obligation -/

/-- Settles O25: STOP by its launch parameter, HALT by whether it meets the halt bug, EI by whether the delay runs. -/
theorem systemInstructions : Obligations.SystemInstructions := by
  refine ⟨fun b s => ?_, fun s => ?_, fun s => ?_⟩
  · rw [exec_nop, exec_stop]
    exact ⟨rfl, nop_next s, rfl, stop_nop2, stop_refuse⟩
  · rw [exec_halt]
    exact ⟨rfl, halt_armsHaltBug, halt_halts⟩
  · rw [exec_di, exec_ei]
    exact ⟨rfl, disableInterrupts_next s, rfl, enableInterrupts_armsDelay, enableInterrupts_keepsDelay⟩

end Sys2Proof.Machine
end

section
/-!
PROOFS. The CPU step part by part (60_exceptions.md R420 to R425): the EI delay, the wake-up, the dispatch, and the
fetch of the instruction that the bytes at PC decode to.
-/

namespace Sys2Proof.Machine

/-! ### The fetched instruction -/

theorem Entry.length_bounds (e : Entry) : 1 ≤ e.length ∧ e.length ≤ 3 := by
  cases e <;> exact ⟨Nat.le_add_left 1 _, by simp only [Entry.length]; omega⟩

/-- Three bytes are enough for every opcode, and they decode to what their entry makes of them. -/
theorem decode_three (op b1 b2 : Byte) :
    decode [op, b1, b2] = .ok ((opEntry op).instr b1 b2, [b1, b2].drop ((opEntry op).length - 1)) :=
  if_neg (Nat.not_lt.mpr (Entry.length_bounds _).2)

/-- What an entry makes of the bytes after the opcode byte is encoded with that byte first and with the entry's
length. -/
theorem encode_instr (op b1 b2 : Byte) :
    (encode ((opEntry op).instr b1 b2)).head? = some op ∧
      (encode ((opEntry op).instr b1 b2)).length = (opEntry op).length := by
  cases he : opEntry op with
  | op i => exact ⟨congrArg List.head? (encode_op he), congrArg List.length (encode_op he)⟩
  | imm8 f => exact ⟨congrArg List.head? (encode_imm8 he b1), congrArg List.length (encode_imm8 he b1)⟩
  | imm16 f => exact ⟨congrArg List.head? (encode_imm16 he _), congrArg List.length (encode_imm16 he _)⟩
  | cb =>
    rw [eq_0xCB_of_cb he]
    exact ⟨congrArg List.head? (encode_cbInstr b1), congrArg List.length (encode_cbInstr b1)⟩

/-- What the CPU fetches is what the bytes it reads decode to (60_exceptions.md R424, R425). -/
theorem State.fetchedInstr_of_decode {s : State} {i : Instr} {rest : List Byte}
    (h : decode [s.busRead s.cpu.pc, s.busRead s.pcAfterOpcode, s.busRead (s.pcAfterOpcode + 1)] = .ok (i, rest)) :
    s.fetchedInstr = i ∧ s.fetchedEntry.length = (encode i).length := by
  rw [decode_three] at h
  cases h
  exact ⟨rfl, (encode_instr _ _ _).2.symm⟩

/-- An invalid instruction is fetched through its opcode byte (30_encoding.md R172). -/
theorem State.fetchedInstr_valid {s : State} (h : s.busRead s.cpu.pc ∉ invalidOpcodes) :
    s.fetchedInstr.invalidOpcode? = none := by
  cases hi : s.fetchedInstr.invalidOpcode? with
  | none => rfl
  | some op =>
    have hhead : (encode s.fetchedInstr).head? = some (s.busRead s.cpu.pc) := (encode_instr _ _ _).1
    rw [encode_invalid hi] at hhead
    cases hhead
    exact absurd (opEntry_of_invalidOpcode hi).1 h

/-! ### A CPU that is not halted -/

/-- The machine with its CPU not halted. -/
def State.awake (s : State) : State := { s with cpu := { s.cpu with halted := false } }

theorem State.wake_idle {s : State} (h : s.ic.pending = 0) : s.wake = s := if_pos h

theorem State.wake_pending {s : State} (h : s.ic.pending ≠ 0) : s.wake = s.awake := if_neg h

theorem State.awake_of_not_halted {s : State} (h : s.cpu.halted = false) : s.awake = s := by
  unfold State.awake
  rw [← h]

theorem State.wake_of_not_halted {s : State} (h : s.wake.cpu.halted = false) : s.wake = s.awake := by
  by_cases hp : s.ic.pending = 0
  · rw [State.wake_idle hp] at h ⊢
    exact (State.awake_of_not_halted h).symm
  · exact State.wake_pending hp

/-- Part (a) does not look at `halted`. -/
theorem State.delayedEnable_awake (s : State) : s.awake.delayedEnable = s.delayedEnable.awake := by
  unfold State.delayedEnable
  rw [apply_ite State.awake]
  rfl

/-! ### A step that runs an instruction -/

/-- A step that neither dispatches nor idles and whose bytes decode to a defined instruction runs it, PC past its bytes
and the halt bug consumed; then the devices tick (60_exceptions.md R420, R424, R440). -/
theorem step_runs {s u : State} {i : Instr} {rest : List Byte} (hu : s.hostTurn.delayedEnable = u)
    (hfatal : s.cpu.fatal = false) (hd : u.dispatches = false) (hh : u.wake.cpu.halted = false)
    (hdecode : decode [u.busRead u.cpu.pc, u.busRead u.pcAfterOpcode, u.busRead (u.pcAfterOpcode + 1)] = .ok (i, rest))
    (hi : i.invalidOpcode? = none) :
    step s =
      Result.andThen
        (exec i
          { u with
            cpu :=
              { u.cpu with
                halted := false, haltBug := false
                pc := u.pcAfterOpcode + BitVec.ofNat 16 ((encode i).length - 1) } })
        State.tickDevices := by
  have hwake := State.wake_of_not_halted hh
  obtain ⟨hinstr, hlength⟩ : u.wake.fetchedInstr = i ∧ u.wake.fetchedEntry.length = (encode i).length := by
    rw [hwake]
    exact State.fetchedInstr_of_decode hdecode
  have hstart : u.wake.handlerStart s.hostTurn = u.wake.afterFetch := State.handlerStart_valid (hinstr.symm ▸ hi) _
  unfold step State.schedulerStep State.cpuStep State.serve State.fetchExecute
  rw [hu, hfatal, hd, hh, hinstr, hstart]
  unfold State.afterFetch
  rw [hlength, hwake]
  rfl

/-- PC past the opcode byte and past the rest of the instruction is PC past all its bytes. -/
theorem pc_past_instruction (pc : Word) {n : Nat} (hn : 1 ≤ n) :
    pc + 1 + BitVec.ofNat 16 (n - 1) = pc + BitVec.ofNat 16 n :=
  calc pc + 1 + BitVec.ofNat 16 (n - 1) = pc + (BitVec.ofNat 16 1 + BitVec.ofNat 16 (n - 1)) := BitVec.add_assoc ..
    _ = pc + BitVec.ofNat 16 n := by rw [← BitVec.ofNat_add, Nat.add_sub_cancel' hn]

theorem State.pcAfterOpcode_of_no_bug {s : State} (h : s.cpu.haltBug = false) : s.pcAfterOpcode = s.cpu.pc + 1 := by
  unfold State.pcAfterOpcode
  rw [h]
  rfl

/-- Under the halt bug PC stays at the opcode byte (60_exceptions.md R425). -/
theorem State.pcAfterOpcode_of_bug {s : State} (h : s.cpu.haltBug = true) : s.pcAfterOpcode = s.cpu.pc := if_pos h

/-- Settles O27: `step_runs` where PC moves past the opcode byte and there is no halt bug to clear. -/
theorem stepRunsTheDecodedInstruction : Obligations.StepRunsTheDecodedInstruction := by
  refine ⟨State.hostTurn_eq_afterHostTurn, fun s i rest => ?_⟩
  rw [← State.hostTurn_eq_afterHostTurn]
  intro u pending hfatal hdispatch hhalted hbug hdecode hi
  have hpc := State.pcAfterOpcode_of_no_bug hbug
  have hnext : u.cpu.pc + 1 + 1 = u.cpu.pc + 2 := BitVec.add_assoc u.cpu.pc 1 1
  rw [← hnext, ← hpc] at hdecode
  have hlength : 1 ≤ (encode i).length :=
    (State.fetchedInstr_of_decode hdecode).2 ▸ (Entry.length_bounds _).1
  rw [step_runs rfl hfatal ((State.dispatches_eq_false_iff u).2 hdispatch)
    ((State.halted_wake_eq_false_iff u).2 hhalted) hdecode hi, hpc, pc_past_instruction _ hlength, ← hbug]

/-- Settles O28: `step_runs` where PC stays at the opcode byte. -/
theorem haltBugRepeatsTheOpcodeByte : Obligations.HaltBugRepeatsTheOpcodeByte := by
  intro s i rest
  rw [← State.hostTurn_eq_afterHostTurn]
  intro u pending hfatal hdispatch hhalted hbug hdecode hi
  have hpc := State.pcAfterOpcode_of_bug hbug
  have hbytes : decode [u.busRead u.cpu.pc, u.busRead u.pcAfterOpcode, u.busRead (u.pcAfterOpcode + 1)] =
      .ok (i, rest) := by
    rw [hpc]
    exact hdecode
  rw [step_runs rfl hfatal ((State.dispatches_eq_false_iff u).2 hdispatch)
    ((State.halted_wake_eq_false_iff u).2 hhalted) hbytes hi, hpc]

/-! ### The EI delay and the end of a halt -/

theorem State.delayedEnable_zero {s : State} (h : s.cpu.imeDelay = 0) : s.delayedEnable = s := if_pos h

theorem State.delayedEnable_succ {s : State} {n : Nat} (h : s.cpu.imeDelay = n + 1) :
    s.delayedEnable = { s with cpu := { s.cpu with imeDelay := n, ime := s.cpu.ime || n == 0 } } := by
  unfold State.delayedEnable
  rw [if_neg (by omega), h]
  rfl

/-- A halted CPU with no enabled request idles (60_exceptions.md R420, R422). -/
theorem State.serve_idle {u : State} (hhalted : u.cpu.halted = true) (hpending : u.ic.pending = 0) (before : State) :
    u.serve before = .next { u with cycles := some 4 } := by
  have hd : u.dispatches = false := (State.dispatches_eq_false_iff u).2 (.inl hpending)
  unfold State.serve
  rw [hd, State.wake_idle hpending, hhalted]
  rfl

/-- With IME = 0 an enabled request ends the halt and the CPU goes on to fetch, whatever the state the step began in
(60_exceptions.md R422). -/
theorem State.serve_awake {u : State} (hime : u.cpu.ime = false) (hpending : u.ic.pending ≠ 0)
    (hvalid : u.busRead u.cpu.pc ∉ invalidOpcodes) (before : State) :
    u.serve before = exec u.awake.fetchedInstr u.awake.afterFetch := by
  have hd : u.dispatches = false := (State.dispatches_eq_false_iff u).2 (.inr hime)
  have hinstr : u.awake.fetchedInstr.invalidOpcode? = none := State.fetchedInstr_valid hvalid
  unfold State.serve State.fetchExecute
  rw [hd, State.wake_pending hpending, State.handlerStart_valid hinstr]
  rfl

/-- Settles O29: part (a) by the value of the delay, `serve_idle`, and `serve_awake` of the CPU halted or not. -/
theorem delayAndWakeUp : Obligations.DelayAndWakeUp := by
  refine ⟨fun s n => ⟨State.delayedEnable_zero, fun h => ?_, fun h => ?_⟩, fun s => ?_⟩
  · rw [State.delayedEnable_succ (n := 0) h, BEq.rfl, Bool.or_true]
  · rw [State.delayedEnable_succ (n := n + 1) h, beq_false_of_ne n.succ_ne_zero, Bool.or_false]
  · intro u pending
    refine ⟨fun hhalted hpending => State.serve_idle hhalted hpending s, fun hime hpending hvalid => ?_⟩
    calc s.cpuStep = exec u.awake.fetchedInstr u.awake.afterFetch := State.serve_awake hime hpending hvalid s
      _ = u.awake.serve s.awake := (State.serve_awake (u := u.awake) hime hpending hvalid s.awake).symm
      _ = s.awake.cpuStep := by rw [State.cpuStep, State.delayedEnable_awake]

/-! ### Interrupt dispatch -/

/-- The source that is dispatched is the lowest one pending (60_exceptions.md R420, R423). -/
theorem lowestPending_eq {p : Byte} {n : Nat} (hn : n < 5) (hset : p.getLsbD n = true)
    (hlower : ∀ m, m < n → p.getLsbD m = false) : lowestPending p = n := by
  have hskip : ∀ m, m < n → ¬p.getLsbD m = true := fun m hm => Bool.eq_false_iff.mp (hlower m hm)
  unfold lowestPending
  interval_cases n
  · exact if_pos hset
  · rw [if_neg (hskip 0 (by decide)), if_pos hset]
  · rw [if_neg (hskip 0 (by decide)), if_neg (hskip 1 (by decide)), if_pos hset]
  · rw [if_neg (hskip 0 (by decide)), if_neg (hskip 1 (by decide)), if_neg (hskip 2 (by decide)), if_pos hset]
  · rw [if_neg (hskip 0 (by decide)), if_neg (hskip 1 (by decide)), if_neg (hskip 2 (by decide)),
      if_neg (hskip 3 (by decide)), if_pos hset]

/-- Taking an interrupt of source `n`, the two pushes written out (60_exceptions.md R413, R423). -/
theorem State.takeInterrupt_eq (s : State) (n : Nat) :
    let t := (s.busWrite (s.cpu.sp - 1) s.cpu.pc.hi).busWrite (s.cpu.sp - 2) s.cpu.pc.lo
    s.takeInterrupt n =
      { t with
        cpu := { s.cpu with ime := false, imeDelay := 0, sp := s.cpu.sp - 2, pc := BitVec.ofNat 16 (0x40 + 8 * n) }
        ic := { t.ic with iflag := t.ic.iflag &&& ~~~BitVec.twoPow 8 n } } := by
  have hvector : vector n = BitVec.ofNat 16 (0x40 + 8 * n) := (BitVec.ofNat_add ..).symm
  unfold State.takeInterrupt
  rw [State.push16_eq, hvector]
  rfl

/-- Settles O30: the step is `takeInterrupt` of the lowest pending source, the halt ended first. -/
theorem interruptDispatch : Obligations.InterruptDispatch := by
  intro s n u pending t hime hn hset hlower
  have hpending : u.ic.pending ≠ 0 := fun hzero => by
    have hclear : pending.getLsbD n = false := (congrArg (BitVec.getLsbD · n) hzero).trans BitVec.getLsbD_zero
    exact Bool.false_ne_true (hclear.symm.trans hset)
  have hd : u.dispatches = true := by
    rw [State.dispatches, hime, bne_iff_ne.mpr hpending]
    rfl
  have hsource : lowestPending u.ic.pending = n := lowestPending_eq hn hset hlower
  unfold State.cpuStep State.serve
  rw [if_pos hd, hsource, State.wake_pending hpending, State.takeInterrupt_eq]
  simp only [State.awake, State.busWrite_cpu]
  rfl

end Sys2Proof.Machine
end

section
/-!
PROOFS. What every step gives: FATAL exactly after an invalid opcode and a next state as long as STOP runs
(60_exceptions.md R401, R402, R426), and the system counter moved by the step's cycles (R432, R435, R440).
-/

namespace Sys2Proof.Machine

/-! ### An instruction that is defined returns a cycle count -/

/-- If the result is a next state, it has a cycle count. -/
def Result.Counts (r : Result) : Prop := ∀ t, r = .next t → t.cycles ≠ none

theorem counts_finish (n : Nat) (s : State) : (finish n s).Counts := by
  rintro t ⟨rfl⟩
  exact nofun

theorem counts_ite {c : Prop} [Decidable c] {r r' : Result} (h : r.Counts) (h' : r'.Counts) :
    Result.Counts (if c then r else r') := by
  split <;> assumption

theorem counts_stop (s : State) : (stop s).Counts := by
  unfold stop
  split
  · exact counts_finish 4 s
  · rintro t ⟨⟩

/-- Only an invalid opcode returns none (60_exceptions.md R401). -/
theorem exec_counts (i : Instr) (s : State) (hi : i.invalidOpcode? = none) : Result.Counts (exec i s) := by
  induction i using Instr.forms with
  | illegal i op h => cases hi.symm.trans h
  | stop v => exact counts_stop s
  | halt => exact counts_ite (counts_finish _ _) (counts_finish _ _)
  | jpIf cc a => rw [exec_jpIf]; exact counts_ite (counts_finish _ _) (counts_finish _ _)
  | jrIf cc e => rw [exec_jrIf]; exact counts_ite (counts_finish _ _) (counts_finish _ _)
  | callIf cc a => rw [exec_callIf]; exact counts_ite (counts_finish _ _) (counts_finish _ _)
  | retIf cc => rw [exec_retIf]; exact counts_ite (counts_finish _ _) (counts_finish _ _)
  | ldRegReg | ldRegImm | ldRegHl | ldHlReg | ldPairImm | push | pop | addHl | incPair | decPair =>
    simp only [exec_ldRegReg, exec_ldRegImm, exec_ldRegHl, exec_ldHlReg, exec_ldPairImm, exec_push, exec_pop,
      exec_addHl, exec_incPair, exec_decPair]
    exact counts_finish _ _
  | aluReg | aluHl | aluImm | incReg | decReg =>
    simp only [exec_aluReg, exec_aluHl, exec_aluImm, exec_incReg, exec_decReg]
    exact counts_finish _ _
  | rotReg | rotHl | bitReg | bitHl | resReg | resHl | setReg | setHl | rst =>
    simp only [exec_rotReg, exec_rotHl, exec_bitReg, exec_bitHl, exec_resReg, exec_resHl, exec_setReg, exec_setHl,
      exec_rst]
    exact counts_finish _ _
  | _ => exact counts_finish _ _

/-! ### FATAL -/

theorem State.fatal_handlerStart (s before : State) : (s.handlerStart before).cpu.fatal = s.cpu.fatal := by
  rw [State.handlerStart_cpu]
  rfl

theorem State.fatal_wake_delayedEnable (s : State) : s.delayedEnable.wake.cpu.fatal = s.cpu.fatal := by
  obtain ⟨ime, halted, hwake⟩ := s.exists_wake_delayedEnable
  rw [hwake]

/-- An instruction ends in FATAL, from a machine that is not, exactly when it is an invalid opcode. -/
theorem exec_fatal_iff {i : Instr} {s v : State} (hfatal : s.cpu.fatal = false) (h : exec i s = .next v)
    (he : ExecEffect s v) : v.cpu.fatal = true ↔ i.invalidOpcode? ≠ none := by
  cases hi : i.invalidOpcode? with
  | none =>
    rcases he.ends with ⟨hf, -, -⟩ | ⟨-, -, hnone⟩
    · rw [hf, hfatal]
      exact iff_of_false Bool.false_ne_true fun hne => hne rfl
    · exact absurd hnone (exec_counts i s hi v h)
  | some op =>
    rw [exec_illegal i op hi] at h
    cases h
    exact iff_of_true rfl nofun

/-- A step gives a FATAL machine exactly when it meets an invalid opcode (60_exceptions.md R401, R426). -/
theorem step_fatal_iff {s t : State} (h : step s = .next t) : t.cpu.fatal = true ↔ s.meetsInvalidOpcode := by
  obtain ⟨hfatal, u, v, rfl, rfl, hv⟩ := step_next h
  have hwake : s.hostTurn.delayedEnable.wake.cpu.fatal = false := by
    obtain ⟨hhost, -⟩ := State.hostTurn_frame s
    rw [State.fatal_wake_delayedEnable, hhost, hfatal]
  obtain ⟨hcpu, -⟩ := State.tickDevices_frame v
  rw [hcpu]
  unfold State.meetsInvalidOpcode
  dsimp only
  generalize s.hostTurn.delayedEnable = u at hv hwake ⊢
  rcases hv with ⟨hd, rfl⟩ | ⟨-, hh, rfl⟩ | ⟨hd, hh, hexec, he⟩
  · rw [State.takeInterrupt_eq]
    exact iff_of_false (Bool.eq_false_iff.mp hwake) fun ⟨hno, _, _⟩ => Bool.false_ne_true (hno.symm.trans hd)
  · exact iff_of_false (Bool.eq_false_iff.mp hwake) fun ⟨_, hno, _⟩ => Bool.false_ne_true (hno.symm.trans hh)
  · rw [exec_fatal_iff ((State.fatal_handlerStart _ _).trans hwake) hexec he]
    exact ⟨fun hi => ⟨hd, hh, hi⟩, fun ⟨_, _, hi⟩ => hi⟩

/-! ### A machine that is not FATAL goes on -/

theorem State.stop_delayedEnable_hostTurn (s : State) : s.hostTurn.delayedEnable.env.stop = s.env.stop := by
  obtain ⟨-, -, -, -, -, -, hstop, -⟩ := State.hostTurn_frame s
  rw [State.delayedEnable_eq]
  exact hstop

/-- With STOP_BEHAVIOUR = nop2 a machine that is not FATAL has a next state (60_exceptions.md R402). -/
theorem exists_step {s : State} (hfatal : s.cpu.fatal = false) (hstop : s.env.stop = .nop2) :
    ∃ t, step s = .next t := by
  by_contra hnone
  rcases step_stops fun t ht => hnone ⟨t, ht⟩ with ⟨hf, -⟩ | ⟨-, -, hrefuse⟩
  · cases hf.symm.trans hfatal
  · rw [State.stop_delayedEnable_hostTurn, hstop] at hrefuse
    cases hrefuse

/-- A step returns 4 to 24 cycles, or it ends in FATAL and returns none (60_exceptions.md R401, R440). -/
theorem step_cycles {s t : State} (h : step s = .next t) :
    (t.cpu.fatal = true ∧ t.cycles = none) ∨ ∃ n, 1 ≤ n ∧ n ≤ 6 ∧ t.cycles = some (4 * n) := by
  obtain ⟨-, u, v, -, rfl, hv⟩ := step_next h
  obtain ⟨hcpu, -, -, -, hcycles⟩ := State.tickDevices_frame v
  rw [hcpu, hcycles]
  rcases hv with ⟨-, rfl⟩ | ⟨-, -, rfl⟩ | ⟨-, -, -, he⟩
  · exact .inr ⟨5, by decide, by decide, rfl⟩
  · exact .inr ⟨1, by decide, by decide, rfl⟩
  · rcases he.ends with ⟨-, -, hcount⟩ | ⟨hf, -, hnone⟩
    · exact .inr hcount
    · exact .inl ⟨hf, hnone⟩

theorem step_of_fatal {s : State} (h : s.cpu.fatal = true) : step s = .fault .fatalStuck := if_pos h

theorem runSteps_succ {s t : State} (h : step s = .next t) (n : Nat) : runSteps (n + 1) s = runSteps n t := by
  rw [runSteps, h]

theorem step_keeps_stop {s t : State} (hstop : s.env.stop = .nop2) (h : step s = .next t) : t.env.stop = .nop2 :=
  (step_onward h).stop.trans hstop

/-- A run with STOP_BEHAVIOUR = nop2 meets no refusal: it goes on, or it is FATAL and faults. -/
theorem runSteps_ne_refused (n : Nat) {s : State} (hstop : s.env.stop = .nop2) (e : Refusal) :
    runSteps n s ≠ .refused e := by
  induction n generalizing s with
  | zero => exact nofun
  | succ n ih =>
    cases hfatal : s.cpu.fatal with
    | true =>
      unfold runSteps
      rw [step_of_fatal hfatal]
      exact nofun
    | false =>
      obtain ⟨t, ht⟩ := exists_step hfatal hstop
      rw [runSteps_succ ht]
      exact ih (step_keeps_stop hstop ht)

/-- A run with STOP_BEHAVIOUR = nop2 is safe as long as no state before its last is FATAL (60_exceptions.md R402). -/
theorem safeFor_of_not_fatal (n : Nat) {s : State} (hstop : s.env.stop = .nop2)
    (h : ∀ m t, m < n → runSteps m s = .next t → t.cpu.fatal = false) : safeFor n s := by
  induction n generalizing s with
  | zero => exact ⟨s, rfl⟩
  | succ n ih =>
    obtain ⟨t, ht⟩ := exists_step (h 0 s n.succ_pos rfl) hstop
    unfold safeFor
    rw [runSteps_succ ht]
    exact ih (step_keeps_stop hstop ht) fun m v hm hv =>
      h (m + 1) v (Nat.succ_lt_succ hm) ((runSteps_succ ht m).trans hv)

/-- Settles O32: `step_fatal_iff`, `exists_step` with `step_cycles`, and the two inductions over a run. -/
theorem everyStepGoesOn : Obligations.EveryStepGoesOn := by
  refine ⟨fun s t _ h => step_fatal_iff h, fun s hfatal hstop => ?_, fun n s hstop _ => ?_⟩
  · obtain ⟨t, ht⟩ := exists_step hfatal hstop
    exact ⟨t, ht, step_cycles ht⟩
  · exact ⟨runSteps_ne_refused n hstop, safeFor_of_not_fatal n hstop⟩

/-! ### The system counter -/

/-- Bus writes leave the counter at 0 when one of them is to DIV, and as it was when none is (60_exceptions.md R435). -/
theorem State.sysctr_busWrites (s : State) (l : List (Word × Byte)) :
    (s.busWrites l).timer.sysctr =
      if (l.any fun w => decide (w.1 = 0xFF04)) = true then 0 else s.timer.sysctr := by
  induction l generalizing s with
  | nil => rfl
  | cons w l ih =>
    rw [State.busWrites_cons, ih, State.sysctr_busWrite, List.any_cons, Bool.or_comm, ← ite_or]
    simp only [Bool.or_eq_true, decide_eq_true_eq]

/-- The devices' tick moves the counter by the cycles of the step (60_exceptions.md R440). -/
theorem State.sysctr_tickDevices {s : State} {c : Nat} (h : s.cycles = some c) :
    s.tickDevices.timer.sysctr = s.timer.sysctr + BitVec.ofNat 16 c := by
  unfold State.tickDevices
  rw [h]
  obtain ⟨-, hppu, -⟩ := State.ppuStep_frame (s.timerTick c) c
  exact (congrArg Timer.sysctr hppu).trans (State.sysctr_timerTick s c)

/-- A dispatch writes DIV when one of its two pushes goes there. -/
theorem State.sysctr_takeInterrupt (s : State) (n : Nat) :
    (s.takeInterrupt n).timer.sysctr =
      if s.cpu.sp - 1 = 0xFF04 ∨ s.cpu.sp - 2 = 0xFF04 then 0 else s.timer.sysctr := by
  rw [State.takeInterrupt_eq]
  show (State.busWrite _ _ _).timer.sysctr = _
  rw [State.sysctr_busWrite, State.sysctr_busWrite, ← ite_or]
  exact if_congr or_comm rfl rfl

theorem State.sp_wake (s : State) : s.wake.cpu.sp = s.cpu.sp := by
  unfold State.wake
  split <;> rfl

/-- A defined instruction writes DIV when one of its stores goes there. -/
theorem sysctr_exec {i : Instr} {s v : State} (h : exec i s = .next v) :
    v.timer.sysctr =
      if ((i.stores s).any fun w => decide (w.1 = 0xFF04)) = true then 0 else s.timer.sysctr := by
  rw [← State.sysctr_busWrites, ← effectIsItsBusWrites i s v h]

/-- Settles O57: what the step did to the counter before the devices tick, branch by branch of `step_next`. -/
theorem counterMovesByTheCycles : Obligations.CounterMovesByTheCycles := by
  intro s t c h hc
  obtain ⟨-, u, v, hu, rfl, hv⟩ := step_next h
  obtain ⟨-, -, -, -, hcycles⟩ := State.tickDevices_frame v
  rw [hcycles] at hc
  have htimer : u.wake.timer = s.timer := by
    obtain ⟨-, hhost, -⟩ := State.hostTurn_frame s
    rw [hu, State.wake_delayedEnable_eq]
    exact hhost
  rw [State.sysctr_tickDevices hc, writesDiv, ← State.hostTurn_eq_afterHostTurn, ← hu, ← htimer]
  congr 1
  rcases hv with ⟨hd, rfl⟩ | ⟨hd, hh, rfl⟩ | ⟨hd, hh, hexec, -⟩
  · rw [if_pos hd, ← State.sp_wake]
    simp only [decide_eq_true_eq]
    exact State.sysctr_takeInterrupt u.wake _
  · rw [hd, hh]
    rfl
  · cases hi : u.wake.fetchedInstr.invalidOpcode? with
    | none =>
      rw [State.handlerStart_valid hi] at hexec
      rw [hd, hh]
      exact sysctr_exec hexec
    | some op =>
      rw [exec_illegal _ op hi] at hexec
      cases hexec
      cases hc

end Sys2Proof.Machine
end

section
/-!
PROOFS. The timer (60_exceptions.md R431 to R435): the tick and the write to DIV, each in one expression.
-/

namespace Sys2Proof.Machine

/-- The selected bit as the table of R431 has it. -/
theorem selBit_eq (tac : Byte) : selBit tac = [9, 3, 5, 7].getD (tac.toNat % 4) 0 := by
  have hmask : (tac &&& 3).toNat = tac.toNat % 4 := (BitVec.toNat_and tac 3).trans (Nat.and_two_pow_sub_one_eq_mod _ 2)
  have hlt : tac.toNat % 4 < 4 := Nat.mod_lt _ (by decide)
  unfold selBit
  rw [hmask]
  generalize tac.toNat % 4 = k at hlt
  interval_cases k <;> rfl

/-- A write to DIV in one expression (60_exceptions.md R435). -/
theorem Timer.writeDiv_eq (t : Timer) :
    t.writeDiv =
      let up := t.enabled && t.sysctr.getLsbD (selBit t.tac)
      { t with
        sysctr := 0
        tima := if up = true then t.tima + 1 else t.tima
        reloadDelay := if up = true ∧ t.tima = 0xFF then 4 else t.reloadDelay } := by
  unfold Timer.writeDiv Timer.timaInc
  generalize (t.enabled && t.sysctr.getLsbD (selBit t.tac)) = up
  cases up with
  | false => simp only [Bool.false_eq_true, false_and, if_false]
  | true =>
    by_cases htima : t.tima = 0xFF
    · simp only [htima, if_true, and_self]
      rfl
    · simp only [htima, if_true, and_false, if_false]

/-- Settles O45: `edge_eq` of `reload_eq` for the tick, `writeDiv_eq` for the write. -/
theorem timerTickAndDivWrite : Obligations.TimerTickAndDivWrite := by
  refine ⟨fun s c => ?_, fun s v => ?_⟩
  · rw [State.timerTick_eq]
    dsimp only
    rw [Timer.edge_eq, Timer.reload_eq]
    simp only [selBit_eq, Timer.enabled, Interrupts.requestIf, Interrupts.request, Bool.and_eq_true,
      Bool.not_eq_true', and_assoc, decide_eq_true_eq]
    congr 1
    split <;> rfl
  · rw [show (0xFF04 : Word) = IoReg.addr .div from rfl, State.busWrite_reg]
    show { s with timer := s.timer.writeDiv } = _
    rw [Timer.writeDiv_eq]
    simp only [selBit_eq, Timer.enabled, Bool.and_eq_true]

end Sys2Proof.Machine
end

section
/-!
PROOFS. The PPU's state machine: line advance and mode entry (61_ppu.md R473, R476), the loop of its step and how it
adds up (R470, R477), and the length of a frame (R461, R462, R505).
-/

namespace Sys2Proof.Machine

/-! ### Line advance and mode entry -/

/-- The line advance in one expression (61_ppu.md R473). -/
theorem State.setLy_eq (s : State) (v : Byte) :
    s.setLy v =
      { s with
        ppu := { s.ppu with ly := v, stat := if v = s.ppu.lyc then s.ppu.stat ||| 0x04 else s.ppu.stat &&& 0xFB }
        ic := s.ic.requestIf (decide (v = s.ppu.lyc) && s.ppu.stat.getLsbD 6) 1 } := by
  unfold State.setLy
  by_cases h : v = s.ppu.lyc
  · simp only [if_pos h, decide_eq_true h, Bool.true_and]
  · simp only [if_neg h, decide_eq_false h, Bool.false_and]
    rfl

theorem Interrupts.requestIf_eq (ic : Interrupts) (b : Bool) (n : Nat) :
    ic.requestIf b n = { ic with iflag := ic.iflag ||| (if b = true then (1 : Byte) <<< n else 0) } := by
  cases b with
  | false => exact congrArg (fun v => { ic with iflag := v }) (BitVec.or_zero).symm
  | true => rfl

/-- The requests of a mode entry in one expression (61_ppu.md R476). -/
theorem modeRequests_eq (stat : Byte) (m : BitVec 2) (ic : Interrupts) :
    modeRequests stat m ic =
      { ic with
        iflag :=
          ic.iflag ||| (if m = 1 then 0x01 else 0) |||
            (if (m = 0 ∧ stat.getLsbD 3 = true) ∨ (m = 1 ∧ stat.getLsbD 4 = true) ∨
                (m = 2 ∧ stat.getLsbD 5 = true) then
              0x02
            else 0) } := by
  rcases mode_cases m with rfl | rfl | rfl | rfl
  · simp [modeRequests, Interrupts.requestIf_eq]
  · simp [modeRequests, Interrupts.requestIf_eq, Interrupts.request]
  · simp [modeRequests, Interrupts.requestIf_eq]
  · simp [modeRequests]

/-- Settles O46: `setLy_eq` and `modeRequests_eq`. -/
theorem lineAdvanceAndModeEntry : Obligations.LineAdvanceAndModeEntry := by
  intro s v m
  constructor
  · rw [State.setLy_eq, Interrupts.requestIf_eq]
    simp only [Bool.and_eq_true, decide_eq_true_eq]
    split
    · rfl
    · rw [show s.ic.iflag ||| 0 = s.ic.iflag from BitVec.or_zero]
  · rw [State.enterMode, modeRequests_eq]
    rfl

/-! ### The loop -/

/-- The PPU step is the transition of the mode, then a step of 0 cycles, when the mode's cycles are up (61_ppu.md
R470). -/
theorem State.ppuStep_leave {s : State} {c : Nat} {m : BitVec 2} (hm : s.ppu.mode = m)
    (h : modeLength m ≤ s.ppu.modeClock + c) :
    s.ppuStep c = (s.leaveMode.withClock (s.ppu.modeClock + c - modeLength m)).ppuStep 0 := by
  subst hm
  let t := s.withClock (s.ppu.modeClock + c)
  calc s.ppuStep c = t.ppuTurn.ppuStep 0 := State.ppuStep_turn (s := t) h
    _ = (s.leaveMode.withClock (s.ppu.modeClock + c - modeLength s.ppu.mode)).ppuStep 0 := by
      rw [State.ppuTurn, State.leaveMode_withClock]
      rfl

/-- The PPU step only counts its cycles when the mode's cycles are not up (61_ppu.md R470). -/
theorem State.ppuStep_count {s : State} {c : Nat} {m : BitVec 2} (hm : s.ppu.mode = m)
    (h : s.ppu.modeClock + c < modeLength m) : s.ppuStep c = s.withClock (s.ppu.modeClock + c) := by
  subst hm
  exact State.ppuStep_stop (s := s.withClock (s.ppu.modeClock + c)) h

theorem ly_succ_eq_144 {ly : Byte} : ly + 1 = 144 ↔ ly = 143 := BitVec.add_left_inj (y := 143) 1

/-- Settles O47: `ppuStep_leave` with what each mode does when it is left, and `ppuStep_count`. -/
theorem ppuStepIsTheLoop : Obligations.PpuStepIsTheLoop := by
  intro s c x after
  refine ⟨fun hm hx => ?_, fun hm hx => ?_, fun hm hx hly => ?_, fun hm hx hly => ?_, fun hm hx hly => ?_,
    fun hm hx hly => ?_, ?_⟩
  · rw [State.ppuStep_leave hm hx, State.leaveMode_scan hm]
    rfl
  · rw [State.ppuStep_leave hm hx, State.leaveMode_transfer hm]
    rfl
  · rw [State.ppuStep_leave hm hx, State.leaveMode_hblank hm, if_neg (mt ly_succ_eq_144.mp hly),
      ← State.enterMode_withClock, ← State.setLy_withClock]
    rfl
  · rw [State.ppuStep_leave hm hx, State.leaveMode_hblank hm, hly, ← State.enterMode_withClock,
      ← State.setLy_withClock]
    rfl
  · rw [State.ppuStep_leave hm hx, State.leaveMode_vblank hm, if_neg hly, ← State.setLy_withClock]
    rfl
  · intro t
    have ht : t = (s.setLy 0).withClock (x - 456) := State.setLy_withClock s 0 (x - 456)
    rw [State.ppuStep_leave hm hx, State.leaveMode_vblank hm, if_pos hly, ht, State.frameComplete, State.setLy_fb,
      State.setLy_frames]
    show State.ppuStep (State.withClock _ (x - 456)) 0 = _
    generalize x - 456 = r
    rfl
  · rintro (⟨hm, hx⟩ | ⟨hm, hx⟩ | ⟨hm, hx⟩ | ⟨hm, hx⟩) <;> exact State.ppuStep_count hm hx

/-! ### Time adds up -/

/-- A turn of the loop leaves cycles counted beyond the mode's end where they are (61_ppu.md R477). -/
theorem State.ppuTurn_withClock {s : State} (h : modeLength s.ppu.mode ≤ s.ppu.modeClock) (b : Nat) :
    (s.withClock (s.ppu.modeClock + b)).ppuTurn = s.ppuTurn.withClock (s.ppuTurn.ppu.modeClock + b) := by
  have hrest : s.ppu.modeClock + b - modeLength s.ppu.mode = s.ppu.modeClock - modeLength s.ppu.mode + b := by omega
  unfold State.ppuTurn
  rw [State.leaveMode_withClock]
  exact congrArg s.leaveMode.withClock hrest

/-- Cycles counted before or after the loop has run give the same. -/
theorem State.ppuStep_zero_ppuStep (s : State) (b : Nat) : (s.ppuStep 0).ppuStep b = s.ppuStep b := by
  induction hn : s.ppu.modeClock using Nat.strong_induction_on generalizing s with
  | _ n ih =>
    by_cases hturn : modeLength s.ppu.mode ≤ s.ppu.modeClock
    · have := modeLength_ge s.ppu.mode
      let t := s.withClock (s.ppu.modeClock + b)
      calc (s.ppuStep 0).ppuStep b = (s.ppuTurn.ppuStep 0).ppuStep b := by rw [State.ppuStep_turn hturn]
        _ = s.ppuTurn.ppuStep b := ih _ (by omega) s.ppuTurn (State.ppuTurn_modeClock s)
        _ = t.ppuTurn.ppuStep 0 := by rw [State.ppuStep_eq, ← State.ppuTurn_withClock hturn]
        _ = s.ppuStep b := (State.ppuStep_turn (s := t) (Nat.le_add_right_of_le hturn)).symm
    · rw [State.ppuStep_stop (Nat.lt_of_not_le hturn)]

/-- Settles O48: the loop of the first step can be left to the second, which then counts all the cycles. -/
theorem ppuTimeAdds : Obligations.PpuTimeAdds := fun s a b =>
  let t := s.withClock (s.ppu.modeClock + a)
  calc s.ppuStep (a + b) = t.ppuStep b := by
        rw [State.ppuStep_eq, State.ppuStep_eq t, ← Nat.add_assoc]
        rfl
    _ = (s.ppuStep a).ppuStep b := (State.ppuStep_zero_ppuStep t b).symm

/-! ### A frame -/

/-- A mode that has just begun is left after its length, and the next one begins (61_ppu.md R461). -/
theorem State.ppuStep_modeLength {s : State} {m : BitVec 2} (hm : s.ppu.mode = m) (h : s.ppu.modeClock = 0) :
    s.ppuStep (modeLength m) = s.leaveMode := by
  have hclock : s.leaveMode.ppu.modeClock = 0 := (State.leaveMode_modeClock s).trans h
  have hself : s.leaveMode.withClock 0 = s.leaveMode := by
    rw [← hclock]
    exact State.withClock_self _
  have := modeLength_ge s.leaveMode.ppu.mode
  rw [State.ppuStep_leave hm (Nat.le_add_left _ _), Nat.add_sub_cancel, h, hself, State.ppuStep_stop (by omega)]

/-- OAM-scan and pixel-transfer lead to H-blank on the same line (61_ppu.md R470). -/
theorem State.leaveMode_leaveMode_scan {s : State} (hm : s.ppu.mode = 2) :
    s.leaveMode.leaveMode.ppu.mode = 0 ∧ s.leaveMode.leaveMode.ppu.ly = s.ppu.ly ∧
      s.leaveMode.leaveMode.ppu.frames = s.ppu.frames := by
  rw [State.leaveMode_scan hm, State.leaveMode_transfer (State.enterMode_mode s 3)]
  exact ⟨State.enterMode_mode _ 0, rfl, rfl⟩

/-- A visible line is the three modes 2, 3 and 0 (61_ppu.md R462). -/
theorem State.ppuStep_visibleLine {s : State} (hm : s.ppu.mode = 2) (h : s.ppu.modeClock = 0) :
    s.ppuStep 456 = s.leaveMode.leaveMode.leaveMode := by
  have hm' : s.leaveMode.ppu.mode = 3 := by
    rw [State.leaveMode_scan hm]
    exact State.enterMode_mode s 3
  obtain ⟨hm'', -, -⟩ := State.leaveMode_leaveMode_scan hm
  calc s.ppuStep 456 = ((s.ppuStep (modeLength 2)).ppuStep (modeLength 3)).ppuStep (modeLength 0) := by
        rw [← ppuTimeAdds, ← ppuTimeAdds]
        rfl
    _ = s.leaveMode.leaveMode.leaveMode := by
        rw [State.ppuStep_modeLength hm h, State.ppuStep_modeLength hm' (by simpa using h),
          State.ppuStep_modeLength hm'' (by simpa using h)]

/-- The mode in which line `k` begins (61_ppu.md R460, R462). -/
def lineMode (k : Nat) : BitVec 2 := if k < 144 then 2 else 1

/-- The PPU is at the start of line `k` and has published `n` frames. -/
structure State.AtLine (s : State) (k n : Nat) : Prop where
  mode : s.ppu.mode = lineMode k
  ly : s.ppu.ly.toNat = k
  clock : s.ppu.modeClock = 0
  frames : s.ppu.frames = n

theorem State.AtLine.mode_visible {s : State} {k n : Nat} (h : s.AtLine k n) (hk : k < 144) : s.ppu.mode = 2 :=
  h.mode.trans (if_pos hk)

theorem State.AtLine.mode_vblank {s : State} {k n : Nat} (h : s.AtLine k n) (hk : 144 ≤ k) : s.ppu.mode = 1 :=
  h.mode.trans (if_neg (Nat.not_lt.mpr hk))

/-- After a visible line the next one begins, in V-blank from line 144 on (61_ppu.md R462, R470). -/
theorem State.AtLine.visible {s : State} {k n : Nat} (h : s.AtLine k n) (hk : k < 144) :
    (s.ppuStep 456).AtLine (k + 1) n := by
  have hm := h.mode_visible hk
  obtain ⟨hm', hly, hframes⟩ := State.leaveMode_leaveMode_scan hm
  have hsucc : (s.ppu.ly + 1).toNat = k + 1 := by rw [ly_succ_toNat (by have := h.ly; omega), h.ly]
  have hlast : ¬s.ppu.ly + 1 = 144 ↔ k + 1 < 144 := by
    rw [BitVec.toNat_eq, hsucc]
    show ¬k + 1 = 144 ↔ _
    omega
  have hclock : s.leaveMode.leaveMode.leaveMode.ppu.modeClock = 0 := by simpa using h.clock
  rw [State.ppuStep_visibleLine hm h.clock]
  refine ⟨?_, ?_, hclock, ?_⟩ <;> rw [State.leaveMode_hblank hm', hly]
  · rw [State.enterMode_mode, lineMode, ← ite_not]
    exact if_congr hlast rfl rfl
  · exact (congrArg BitVec.toNat (State.setLy_ly _ _)).trans hsucc
  · exact (State.setLy_frames _ _).trans (hframes.trans h.frames)

/-- A line of V-blank is one length of mode 1 (61_ppu.md R461). -/
theorem State.AtLine.ppuStep_vblank {s : State} {k n : Nat} (h : s.AtLine k n) (hk : 144 ≤ k) :
    s.ppuStep 456 = s.leaveMode := State.ppuStep_modeLength (h.mode_vblank hk) h.clock

theorem State.AtLine.vblank {s : State} {k n : Nat} (h : s.AtLine k n) (hk : 144 ≤ k) (hlast : k < 153) :
    (s.ppuStep 456).AtLine (k + 1) n := by
  have hm := h.mode_vblank hk
  have hly := h.ly
  have hclock : s.leaveMode.ppu.modeClock = 0 := (State.leaveMode_modeClock s).trans h.clock
  have hne : s.ppu.ly ≠ 153 := fun heq => by
    rw [heq] at hly
    exact absurd hly (show 153 ≠ k by omega)
  rw [h.ppuStep_vblank hk]
  refine ⟨?_, ?_, hclock, ?_⟩ <;> rw [State.leaveMode_vblank hm, if_neg hne]
  · rw [State.setLy_mode, hm, lineMode, if_neg (by omega)]
  · rw [State.setLy_ly, ly_succ_toNat (by omega), hly]
  · rw [State.setLy_frames, h.frames]

/-- `k` lines of 456 cycles lead from line 0 to line `k`. -/
theorem State.AtLine.lines {s : State} {n : Nat} (h : s.AtLine 0 n) {k : Nat} (hk : k ≤ 153) :
    (s.ppuStep (456 * k)).AtLine k n := by
  induction k with
  | zero => rwa [Nat.mul_zero, State.ppuStep_stop (by have := modeLength_ge s.ppu.mode; have := h.clock; omega)]
  | succ k ih =>
    have hline := ih (by omega)
    rw [Nat.mul_succ, ppuTimeAdds]
    by_cases hvisible : k < 144
    · exact hline.visible hvisible
    · exact hline.vblank (by omega) (by omega)

/-- The last line ends with a frame published and line 0 begun (61_ppu.md R462, R505). -/
theorem State.AtLine.frame {s : State} {n : Nat} (h : s.AtLine 153 n) :
    (s.ppuStep 456).AtLine 0 (n + 1) ∧ (s.ppuStep 456).ppu.frameOut = (s.ppuStep 456).ppu.fb := by
  have hly : s.ppu.ly = 153 := BitVec.eq_of_toNat_eq h.ly
  have hclock : s.leaveMode.ppu.modeClock = 0 := (State.leaveMode_modeClock s).trans h.clock
  rw [h.ppuStep_vblank (by decide)]
  rw [State.leaveMode_vblank (h.mode_vblank (by decide)), if_pos hly] at hclock ⊢
  exact ⟨⟨State.enterMode_mode _ 2, congrArg BitVec.toNat (State.setLy_ly s 0), hclock,
    congrArg Nat.succ ((State.setLy_frames s 0).trans h.frames)⟩, rfl⟩

/-- Settles O49: 153 lines and the last one, 456 cycles each. -/
theorem frameTakes70224Cycles : Obligations.FrameTakes70224Cycles := by
  intro s hm hly hclock t
  have hstart : s.AtLine 0 s.ppu.frames := ⟨hm, congrArg BitVec.toNat hly, hclock, rfl⟩
  have ht : t = (s.ppuStep (456 * 153)).ppuStep 456 := ppuTimeAdds s (456 * 153) 456
  obtain ⟨hend, hout⟩ := (hstart.lines le_rfl).frame
  rw [ht]
  exact ⟨hend.mode, BitVec.eq_of_toNat_eq hend.ly, hend.clock, hend.frames, hout⟩

end Sys2Proof.Machine
end

section
/-!
PROOFS. The scanline renderer (61_ppu.md R480 to R493): the colour index of a background or window pixel, the sprites
of a line and their pixels, and the line that results.
-/

namespace Sys2Proof.Machine

/-! ### A pixel of a tile -/

theorem toNat_two_bits (b c : Bool) :
    (BitVec.ofBool b ++ BitVec.ofBool c : BitVec 2).toNat = 2 * b.toNat + c.toNat := by
  cases b <;> cases c <;> rfl

theorem toNat_getLsbD (v : Byte) (k : Nat) : (v.getLsbD k).toNat = v.toNat / 2 ^ k % 2 := by
  rw [BitVec.getLsbD, Nat.toNat_testBit]

/-- A pixel of a tile in numbers, the high plane as bit 1 (61_ppu.md R481). -/
theorem Ppu.toNat_tilePix (p : Ppu) (addr r k : Nat) :
    (p.tilePix addr r k).toNat =
      2 * ((vramByte p (addr + 2 * r + 1)).toNat / 2 ^ (7 - k) % 2) +
        (vramByte p (addr + 2 * r)).toNat / 2 ^ (7 - k) % 2 := by
  rw [← toNat_getLsbD, ← toNat_getLsbD, ← toNat_two_bits]
  rfl

/-! ### Background and window -/

/-- The tile addresses around 0x9000 go down to 0x8800 for the indices from 128 on (61_ppu.md R482). -/
theorem Ppu.bgTileAddr_eq (p : Ppu) (t : Byte) :
    p.bgTileAddr t =
      if p.lcdc.getLsbD 4 then 0x8000 + 16 * t.toNat
      else if t.toNat < 128 then 0x9000 + 16 * t.toNat else 0x8000 + 16 * t.toNat := by
  have hsigned : t.toInt = if t.toNat < 128 then (t.toNat : Int) else t.toNat - 256 := by
    rw [BitVec.toInt_eq_toNat_cond]
    split_ifs <;> omega
  have := t.isLt
  unfold Ppu.bgTileAddr
  rw [hsigned]
  split_ifs <;> omega

theorem Ppu.toNat_mapPix (p : Ppu) (map py px : Nat) : (p.mapPix map py px).toNat = tilePixelInNumbers p map py px := by
  unfold Ppu.mapPix
  rw [Ppu.toNat_tilePix, Ppu.bgTileAddr_eq]
  rfl

theorem Ppu.windowCovers_iff (p : Ppu) (ly x : Nat) :
    p.windowCovers ly x = true ↔
      p.lcdc.getLsbD 5 = true ∧ p.wy.toNat ≤ ly ∧ p.wx.toNat ≤ 166 ∧ p.wx.toNat ≤ x + 7 := by
  simp only [Ppu.windowCovers, Bool.and_eq_true, decide_eq_true_eq, and_assoc]

/-- Settles O50, branch by branch of `bgIdx`. -/
theorem backgroundAndWindowIndex : Obligations.BackgroundAndWindowIndex := by
  intro p ly x _ _ window
  have hcovers := Ppu.windowCovers_iff p ly x
  refine ⟨fun hoff => if_pos hoff, fun hon hwindow => ?_, fun hon hno => ?_⟩
  · rw [Ppu.bgIdx, hon, if_neg (by decide), if_pos (hcovers.mpr hwindow)]
    exact Ppu.toNat_mapPix ..
  · rw [Ppu.bgIdx, hon, if_neg (by decide), if_neg (mt hcovers.mp hno)]
    exact Ppu.toNat_mapPix ..

/-! ### The sprites of a line -/

/-- The OAM indices of the sprites that meet the line, from entry 39 down to 0 (61_ppu.md R490). -/
def Ppu.spriteScan (p : Ppu) (ly : Nat) : List Nat :=
  (List.range 40).reverse.filter fun i => p.spriteOnLine ly (p.sprite i)

/-- The OAM indices of the sprites that `selectedSprites` keeps. -/
def Ppu.selectedIndices (p : Ppu) (ly : Nat) : List Nat := (p.spriteScan ly).take 10

theorem Ppu.selectedSprites_eq (p : Ppu) (ly : Nat) : p.selectedSprites ly = (p.selectedIndices ly).map p.sprite := by
  unfold Ppu.selectedSprites Ppu.selectedIndices Ppu.spriteScan
  rw [List.filter_map, ← List.map_take]
  rfl

theorem Ppu.mem_spriteScan {p : Ppu} {ly i : Nat} :
    i ∈ p.spriteScan ly ↔ i < 40 ∧ p.spriteOnLine ly (p.sprite i) = true := by
  rw [Ppu.spriteScan, List.mem_filter, List.mem_reverse, List.mem_range]

theorem Ppu.spriteScan_descending (p : Ppu) (ly : Nat) : (p.spriteScan ly).Pairwise fun i j => j < i := by
  apply List.Pairwise.filter
  rw [List.pairwise_reverse]
  exact List.pairwise_lt_range

/-- A sprite of the line that is not kept comes after ten that are, in the scan (92_eei_decisions.md D24). -/
theorem Ppu.not_mem_selectedIndices {p : Ppu} {ly i : Nat} (hscan : i ∈ p.spriteScan ly)
    (h : i ∉ p.selectedIndices ly) :
    (p.selectedIndices ly).length = 10 ∧ ∀ j ∈ p.selectedIndices ly, i < j := by
  have hdesc := p.spriteScan_descending ly
  unfold Ppu.selectedIndices at h ⊢
  generalize p.spriteScan ly = scan at *
  rw [← List.take_append_drop 10 scan] at hscan hdesc
  have hdrop : i ∈ scan.drop 10 := (List.mem_append.mp hscan).resolve_left h
  refine ⟨?_, fun j hj => (List.pairwise_append.mp hdesc).2.2 j hj i hdrop⟩
  have hlength := List.length_pos_of_mem hdrop
  rw [List.length_drop] at hlength
  rw [List.length_take]
  omega

/-! ### The pixel of a sprite -/

theorem Ppu.spriteOnLine_iff (p : Ppu) (ly : Nat) (o : Sprite) :
    p.spriteOnLine ly o = true ↔ o.y.toNat ≤ ly + 16 ∧ ly + 16 < o.y.toNat + p.spriteHeight := by
  simp only [Ppu.spriteOnLine, Bool.and_eq_true, decide_eq_true_eq]

/-- Bit 0 of the tile index is ignored in the tall mode (61_ppu.md R491). -/
theorem Ppu.spriteTileAddr_eq (p : Ppu) (o : Sprite) :
    p.spriteTileAddr o = 0x8000 + 16 * (if p.lcdc.getLsbD 2 then o.tile.toNat / 2 * 2 else o.tile.toNat) := by
  have heven : ∀ v : Byte, (v &&& 0xFE).toNat = v.toNat / 2 * 2 := by decide
  unfold Ppu.spriteTileAddr
  rw [apply_ite BitVec.toNat, heven]

/-- The row of a sprite that meets the line, counted from the bottom when it is flipped (61_ppu.md R491). -/
theorem Ppu.spriteRow_eq {p : Ppu} {ly : Nat} {o : Sprite} (h : p.spriteOnLine ly o = true) :
    p.spriteRow ly o =
      if o.attr.getLsbD 6 then o.y.toNat + p.spriteHeight - 1 - (ly + 16) else ly + 16 - o.y.toNat := by
  obtain ⟨hle, hlt⟩ := (p.spriteOnLine_iff ly o).mp h
  unfold Ppu.spriteRow
  dsimp only
  split
  · omega
  · rfl

/-- Column `k` of a sprite shows bit `7 - k` of the row, or bit `k` when it is flipped (61_ppu.md R491). -/
theorem spriteColumn_eq {b : Bool} {k : Nat} (hk : k < 8) : 7 - (if b then 7 - k else k) = if b then k else 7 - k := by
  split <;> omega

/-- Settles O52: the kept sprites are those of `selectedIndices`, and a pixel is that of the tile's row and column. -/
theorem spriteSelectionAndPixel : Obligations.SpriteSelectionAndPixel := by
  refine ⟨fun p i => rfl, fun p ly _ => ?_⟩
  intro height onLine
  constructor
  · have hline (i : Nat) : p.spriteOnLine ly (p.sprite i) = true ↔ onLine i := p.spriteOnLine_iff ly (p.sprite i)
    refine ⟨p.selectedIndices ly, p.selectedSprites_eq ly,
      (p.spriteScan_descending ly).sublist (List.take_sublist 10 _), List.length_take_le 10 _,
      fun i hi => ?_, fun i hi hon hno => ?_⟩
    · obtain ⟨hlt, hon⟩ := Ppu.mem_spriteScan.mp (List.mem_of_mem_take hi)
      exact ⟨hlt, (hline i).mp hon⟩
    · exact Ppu.not_mem_selectedIndices (Ppu.mem_spriteScan.mpr ⟨hi, (hline i).mpr hon⟩) hno
  · intro o k hy hheight hk
    have hon : p.spriteOnLine ly o = true := (p.spriteOnLine_iff ly o).mpr ⟨hy, hheight⟩
    rw [Ppu.spriteIdx, Ppu.toNat_tilePix, Ppu.spriteTileAddr_eq, Ppu.spriteRow_eq hon, spriteColumn_eq hk]
    rfl

/-! ### The rendered line -/

/-- A shade in numbers (61_ppu.md R485). -/
theorem shade_eq (pal : Byte) (i : BitVec 2) : shade pal i = shadeInNumbers pal i := by
  show BitVec.ofNat 2 (pal.toNat >>> (2 * i.toNat)) = BitVec.ofNat 2 (pal.toNat / 4 ^ i.toNat)
  rw [Nat.shiftRight_eq_div_pow, Nat.pow_mul]

/-- A write to cell `cell k` of `value k`, if `cond k`. -/
def Cells.writeIf {w : Nat} (cond : Nat → Bool) (cell : Nat → Nat) (value : Nat → BitVec w) (m : Cells w) (k : Nat) :
    Cells w :=
  if cond k then m.write (cell k) (value k) else m

section
variable {w : Nat} {cond : Nat → Bool} {cell : Nat → Nat} {value : Nat → BitVec w} {m : Cells w} {j : Nat}

theorem Cells.read_writeIf_miss {k : Nat} (h : cond k = true → cell k ≠ j) :
    Cells.read (m.writeIf cond cell value k) j = Cells.read m j := by
  unfold Cells.writeIf
  split
  · next hk => rw [Cells.read_write, if_neg (h hk).symm]
  · rfl

/-- A cell that none of the writes reaches. -/
theorem Cells.read_foldl_writeIf_miss {n : Nat} (h : ∀ k < n, cond k = true → cell k ≠ j) :
    Cells.read ((List.range n).foldl (Cells.writeIf cond cell value) m) j = Cells.read m j :=
  List.foldlRecOn (motive := fun m' => Cells.read m' j = Cells.read m j) _ _ rfl fun _ hm k hk =>
    (Cells.read_writeIf_miss (h k (List.mem_range.mp hk))).trans hm

/-- A cell that one of the writes reaches. -/
theorem Cells.read_foldl_writeIf_hit {i n : Nat} (hi : i < n) (hcond : cond i = true) (hcell : cell i = j)
    (honly : ∀ k < n, cond k = true → cell k = j → k = i) :
    Cells.read ((List.range n).foldl (Cells.writeIf cond cell value) m) j = value i := by
  induction n with
  | zero => cases hi
  | succ n ih =>
    rw [List.range_succ, List.foldl_append, List.foldl_cons, List.foldl_nil]
    by_cases hn : i = n
    · rw [← hn, Cells.writeIf, if_pos hcond, Cells.read_write, if_pos hcell.symm]
    · have hmiss : cond n = true → cell n ≠ j := fun hc he => hn (honly n n.lt_succ_self hc he).symm
      rw [Cells.read_writeIf_miss hmiss]
      exact ih (by omega) fun k hk => honly k (Nat.lt_succ_of_lt hk)

end

theorem Ppu.drawBackground_eq (p : Ppu) (ly : Nat) :
    p.drawBackground ly =
      (List.range 160).foldl (Cells.writeIf (fun _ => true) (fbIndex ly) fun x => shade p.bgp (p.bgIdx ly x))
        p.fb := rfl

/-- Background and window are drawn on every column of the line … -/
theorem Ppu.read_drawBackground (p : Ppu) (ly : Nat) {x : Nat} (hx : x < 160) :
    Cells.read (p.drawBackground ly) (fbIndex ly x) = shadeInNumbers p.bgp (p.bgIdx ly x) := by
  rw [Ppu.drawBackground_eq, ← shade_eq]
  exact Cells.read_foldl_writeIf_hit hx rfl rfl fun k _ _ h => Nat.add_left_cancel h

/-- … and nowhere else (61_ppu.md R480). -/
theorem Ppu.read_drawBackground_frame (p : Ppu) {ly j : Nat} (hj : ∀ x < 160, fbIndex ly x ≠ j) :
    Cells.read (p.drawBackground ly) j = Cells.read p.fb j := by
  rw [Ppu.drawBackground_eq, Cells.read_foldl_writeIf_miss fun k hk _ => hj k hk]

/-- A sprite draws its column `k` at the screen column it falls on, if it is opaque there and not behind the background
(61_ppu.md R491). -/
theorem Ppu.spriteDraws_iff (p : Ppu) (ly k : Nat) (o : Sprite) :
    p.spriteDraws ly o k = true ↔
      ∃ x < 160, o.x.toNat + k = x + 8 ∧ p.spriteIdx ly o k ≠ 0 ∧ (o.attr.getLsbD 7 = true → p.bgIdx ly x = 0) := by
  simp only [Ppu.spriteDraws, Bool.and_eq_true, decide_eq_true_eq, bne_iff_ne, Bool.not_eq_true', Bool.and_eq_false_imp,
    bne_eq_false_iff_eq, and_assoc]
  constructor
  · rintro ⟨hleft, hright, hopaque, hfront⟩
    exact ⟨o.x.toNat + k - 8, by omega, by omega, hopaque, hfront⟩
  · rintro ⟨x, hx, hcolumn, hopaque, hfront⟩
    have hscreen : o.x.toNat + k - 8 = x := by omega
    exact ⟨by omega, by omega, hopaque, hscreen ▸ hfront⟩

theorem Ppu.drawSprite_eq (p : Ppu) (ly : Nat) (fb : Frame) (o : Sprite) :
    p.drawSprite ly fb o =
      (List.range 8).foldl
        (Cells.writeIf (p.spriteDraws ly o) (fun k => fbIndex ly (o.x.toNat + k - 8))
          fun k => shade (p.spritePalette o) (p.spriteIdx ly o k)) fb := rfl

/-- Whether one of the eight columns of the sprite is drawn at column `x` of line `ly` (61_ppu.md R491). -/
def Ppu.spriteShows (p : Ppu) (ly x : Nat) (o : Sprite) : Bool :=
  decide
    (o.x.toNat ≤ x + 8 ∧ x < o.x.toNat ∧ p.spriteIdx ly o (x + 8 - o.x.toNat) ≠ 0 ∧
      (o.attr.getLsbD 7 = true → p.bgIdx ly x = 0))

theorem Ppu.spriteShows_iff (p : Ppu) {ly x : Nat} (hx : x < 160) (o : Sprite) :
    p.spriteShows ly x o = true ↔ ∃ k < 8, o.x.toNat + k = x + 8 ∧ p.spriteDraws ly o k = true := by
  rw [Ppu.spriteShows, decide_eq_true_eq]
  constructor
  · rintro ⟨hleft, hright, hopaque, hfront⟩
    have hk : o.x.toNat + (x + 8 - o.x.toNat) = x + 8 := by omega
    exact ⟨x + 8 - o.x.toNat, by omega, hk, (p.spriteDraws_iff ly _ o).mpr ⟨x, hx, hk, hopaque, hfront⟩⟩
  · rintro ⟨k, hk, hkx, hdraws⟩
    obtain ⟨x', -, hkx', hopaque, hfront⟩ := (p.spriteDraws_iff ly k o).mp hdraws
    obtain rfl : x' = x := by omega
    obtain rfl : k = x' + 8 - o.x.toNat := by omega
    exact ⟨by omega, by omega, hopaque, hfront⟩

/-- The shade of the sprite at column `x` of line `ly` (61_ppu.md R485, R491). -/
def Ppu.spriteShade (p : Ppu) (ly x : Nat) (o : Sprite) : BitVec 2 :=
  shadeInNumbers (p.spritePalette o) (p.spriteIdx ly o (x + 8 - o.x.toNat))

/-- A sprite drawn over the line, seen at one of its columns. -/
theorem Ppu.read_drawSprite (p : Ppu) {ly x : Nat} (hx : x < 160) (fb : Frame) (o : Sprite) :
    Cells.read (p.drawSprite ly fb o) (fbIndex ly x) =
      if p.spriteShows ly x o then p.spriteShade ly x o else Cells.read fb (fbIndex ly x) := by
  have hcolumn : ∀ k, p.spriteDraws ly o k = true → fbIndex ly (o.x.toNat + k - 8) = fbIndex ly x →
      o.x.toNat + k = x + 8 := by
    intro k hdraws hcell
    obtain ⟨_, -, hk, -⟩ := (p.spriteDraws_iff ly k o).mp hdraws
    unfold fbIndex at hcell
    omega
  rw [Ppu.drawSprite_eq]
  split
  · next hshows =>
    obtain ⟨k, hk, hkx, hdraws⟩ := (p.spriteShows_iff hx o).mp hshows
    have hcell : o.x.toNat + k - 8 = x := by omega
    have hk' : x + 8 - o.x.toNat = k := by omega
    rw [Ppu.spriteShade, hk', ← shade_eq]
    exact Cells.read_foldl_writeIf_hit hk hdraws (congrArg (fbIndex ly) hcell) fun i _ hd hc =>
      Nat.add_left_cancel ((hcolumn i hd hc).trans hkx.symm)
  · next hhidden =>
    exact Cells.read_foldl_writeIf_miss fun k hk hd hc =>
      hhidden ((p.spriteShows_iff hx o).mpr ⟨k, hk, hcolumn k hd hc, hd⟩)

theorem Ppu.read_drawSprite_frame (p : Ppu) {ly j : Nat} (hj : ∀ x < 160, fbIndex ly x ≠ j) (fb : Frame) (o : Sprite) :
    Cells.read (p.drawSprite ly fb o) j = Cells.read fb j := by
  rw [Ppu.drawSprite_eq]
  exact Cells.read_foldl_writeIf_miss fun k _ hd => hj _ (Ppu.column_of_spriteDraws hd)

/-- Of sprites drawn one after another the last that shows is the one visible (61_ppu.md R492). -/
theorem Ppu.read_drawSprites (p : Ppu) {ly x : Nat} (hx : x < 160) (fb : Frame) (l : List Sprite) :
    Cells.read (l.foldl (p.drawSprite ly) fb) (fbIndex ly x) =
      (l.reverse.find? (p.spriteShows ly x)).elim (Cells.read fb (fbIndex ly x)) (p.spriteShade ly x) := by
  rw [List.foldl_eq_foldr_reverse]
  induction l.reverse with
  | nil => rfl
  | cons o later ih =>
    rw [List.foldr_cons, Ppu.read_drawSprite p hx, List.find?_cons, ih]
    cases p.spriteShows ly x o <;> rfl

theorem Ppu.renderScanline_visible (p : Ppu) {ly : Nat} (hly : ly < 144) :
    p.renderScanline ly =
      if p.lcdc.getLsbD 1 then (p.selectedSprites ly).foldl (p.drawSprite ly) (p.drawBackground ly)
      else p.drawBackground ly := if_pos hly

theorem Ppu.read_renderScanline_frame (p : Ppu) {ly j : Nat} (hly : ly < 144) (hj : ∀ x < 160, fbIndex ly x ≠ j) :
    Cells.read (p.renderScanline ly) j = Cells.read p.fb j := by
  have hbackground := p.read_drawBackground_frame hj
  rw [Ppu.renderScanline_visible p hly]
  split
  · exact List.foldlRecOn (motive := fun fb => Cells.read fb j = Cells.read p.fb j) _ _ hbackground fun fb hfb o _ =>
      (p.read_drawSprite_frame hj fb o).trans hfb
  · exact hbackground

/-- Settles O51: the sprites are drawn over the background, the lowest OAM index last. -/
theorem renderedLine : Obligations.RenderedLine := by
  intro p ly x hly hx cell background
  have hbackground : Cells.read (p.drawBackground ly) (fbIndex ly x) = background := p.read_drawBackground ly hx
  refine ⟨fun hoff => ?_, fun hon => ?_, fun j hj => p.read_renderScanline_frame hly fun i hi => ?_⟩
  · show Cells.read (p.renderScanline ly) (fbIndex ly x) = _
    rw [Ppu.renderScanline_visible p hly, if_neg (Bool.eq_false_iff.mp hoff), hbackground]
  · show Cells.read (p.renderScanline ly) (fbIndex ly x) = _
    rw [Ppu.renderScanline_visible p hly, if_pos hon, Ppu.read_drawSprites p hx, hbackground]
    show _ =
      match (p.selectedSprites ly).reverse.find? (p.spriteShows ly x) with
      | none => _
      | some o => _
    cases (p.selectedSprites ly).reverse.find? (p.spriteShows ly x) <;> rfl
  · unfold fbIndex
    omega

end Sys2Proof.Machine
end
